-- ==== Sys2Proof/Word.lean ====
section
/-! DEFINITION. The words of the machine (00_scope.md R6, R8, R9) and the names its instructions use for
registers, register pairs, conditions and accumulator operations (10_state.md R31, R35; 30_encoding.md R124 to
R127). Bit 0 of a word is its least significant bit. -/

namespace Sys2Proof

/-- A byte: 8 bits, unsigned, wraps (R6, R8). -/
abbrev Byte := BitVec 8

/-- A word: 16 bits, unsigned, wraps (R6, R8). -/
abbrev Word := BitVec 16

/-- The seven general registers (R31). M is no register (R34). -/
inductive Reg where
  | a | b | c | d | e | h | l
  deriving DecidableEq, Repr

/-- The three fixed register pairs; the first letter names the high register (R35). -/
inductive Pair where
  | bc | de | hl
  deriving DecidableEq, Repr

/-- The eight conditions of the conditional jumps, calls and returns (R126, R301). -/
inductive Cond where
  | nz | z | nc | c | po | pe | p | m
  deriving DecidableEq, Repr

/-- The eight accumulator operations of the field `alu` (R127). -/
inductive AccOp where
  | add | adc | sub | sbb | ana | xra | ora | cmp
  deriving DecidableEq, Repr

/-- The eight restart numbers `nnn` (R127, R332). -/
inductive RstNum where
  | r0 | r1 | r2 | r3 | r4 | r5 | r6 | r7
  deriving DecidableEq, Repr

/-- The three PC-advance policies of a table entry (R133, R142, R150; 90_conflicts.md C8). -/
inductive PcPolicy where
  | dispatcher | handler | handlerIfTaken
  deriving DecidableEq, Repr

end Sys2Proof
end

