-- ==== Sys2Proof/Config.lean ====
section
/-! DEFINITION. What a run is given from outside (00_scope.md R7, 10_state.md R62): the parameters MEM_SIZE and
CB_ALIAS, the host behind the ports, and the defaults the spec gives to every parameter. The one value the spec leaves
free, the byte an IN receives (20_memory.md R99), is the one opaque constant: the spec leaves no result of an
instruction undefined (93_implementation_defined.md, U1). -/

namespace Sys2Proof

/-- What opcode 0xCB does: `CB_ALIAS` (R7, R131, R340; D20). -/
inductive CbAlias where
  | ret | jmp
  deriving DecidableEq, Repr

/-- The parameters the step reads (R7, R62). `memSize` is `MEM_SIZE`, the configured size of the memory image;
`cbAlias` is `CB_ALIAS`. -/
structure Params where
  memSize : Nat
  cbAlias : CbAlias
  deriving DecidableEq, Repr

/-- `1 <= MEM_SIZE <= 65536` (R7, R80). -/
abbrev Params.wf (p : Params) : Prop := 1 ≤ p.memSize ∧ p.memSize ≤ 65536

/-- The defaults of `MEM_SIZE` and `CB_ALIAS`: 65536 and RET (R7; D1, D20). -/
def Config.defaultParams : Params := { memSize := 65536, cbAlias := .ret }

/-- The default of `ENTRY` (R7, R63; D5). -/
def Config.defaultEntry : Word := 0x0000

/-- The default of `SP_INIT` (R7, R63; D6). -/
def Config.defaultSpInit : Word := 0x0000

/-- What an address that no `load` and no instruction has written reads as: 0x00, the default of `MEM_INIT`
(R7, R452 item 2; D8, C12). -/
def Config.unlistedByte : Byte := 0x00

/-! ### The host behind the ports -/

/-- One port access: the byte an IN received from a port, or the byte an OUT sent to it (R99). -/
inductive PortEvent where
  | input (port : Byte) (v : Byte)
  | output (port : Byte) (v : Byte)
  deriving DecidableEq, Repr

/-- One byte for each of the 256 ports (R98). -/
abbrev PortTable := Vector Byte 256

/-- The environment PortIn and PortOut as the host plays it (R7, R99; D18; log entry 2). -/
inductive PortHost where
  /-- Answers an IN with the first byte still listed for its port, then with `Config.defaultPortByte`. -/
  | scripted (answers : List (Byte × Byte))
  /-- Answers an IN with the byte of its port, for ever, whatever is sent. -/
  | fixed (bytes : PortTable)
  /-- The 256-byte table: an OUT stores its byte at its port, an IN reads the byte of its port. -/
  | table (bytes : PortTable)
  /-- A host of which nothing is known: it answers `Config.hostPortByte`, a free value. -/
  | free (host : Nat)
  deriving DecidableEq, Repr

/-- FREE VALUE: the byte the unknown host numbered `host` chooses for an IN from `port` after the port accesses `log`,
oldest first (R99: "a free input of the step"; log entry 2). No proof can see its value. -/
opaque Config.hostPortByte (host : Nat) (log : List PortEvent) (port : Byte) : Byte

/-- What the default environment answers to every `PortRead` (R7, R99; D18). -/
def Config.defaultPortByte : Byte := 0x00

/-- The default of `PortIn` and `PortOut`: no answer listed, so 0x00 on every port, for ever (R7, R99; D18). -/
def Config.defaultPortHost : PortHost := .scripted []

end Sys2Proof
end

