-- ==== Sys2Proof/Syntax.lean ====
section
/-! DEFINITION. The instructions: one constructor per row of spec/opcode_table.json, that is one per opcode byte
(30_encoding.md R130, R150), with the operand the row declares, and one more, `jmpCB`, for the byte 0xCB when
CB_ALIAS = JMP (R131, R340). An operand `imm : Byte` is d8, `imm : Word` d16, `addr` an address, `port` a port
number (R128). The twelve opcode bytes that behave as another instruction have constructors of their own, because
a fault report names the opcode byte that ran (R403). The order is the spec's, family by family, with the arithmetic
family last. -/

namespace Sys2Proof

/-- The instructions (R130). -/
inductive Instr where
  /-- 0x40 MOV B,B (R201). -/
  | movBB
  /-- 0x41 MOV B,C (R201). -/
  | movBC
  /-- 0x42 MOV B,D (R201). -/
  | movBD
  /-- 0x43 MOV B,E (R201). -/
  | movBE
  /-- 0x44 MOV B,H (R201). -/
  | movBH
  /-- 0x45 MOV B,L (R201). -/
  | movBL
  /-- 0x47 MOV B,A (R201). -/
  | movBA
  /-- 0x48 MOV C,B (R201). -/
  | movCB
  /-- 0x49 MOV C,C (R201). -/
  | movCC
  /-- 0x4A MOV C,D (R201). -/
  | movCD
  /-- 0x4B MOV C,E (R201). -/
  | movCE
  /-- 0x4C MOV C,H (R201). -/
  | movCH
  /-- 0x4D MOV C,L (R201). -/
  | movCL
  /-- 0x4F MOV C,A (R201). -/
  | movCA
  /-- 0x50 MOV D,B (R201). -/
  | movDB
  /-- 0x51 MOV D,C (R201). -/
  | movDC
  /-- 0x52 MOV D,D (R201). -/
  | movDD
  /-- 0x53 MOV D,E (R201). -/
  | movDE
  /-- 0x54 MOV D,H (R201). -/
  | movDH
  /-- 0x55 MOV D,L (R201). -/
  | movDL
  /-- 0x57 MOV D,A (R201). -/
  | movDA
  /-- 0x58 MOV E,B (R201). -/
  | movEB
  /-- 0x59 MOV E,C (R201). -/
  | movEC
  /-- 0x5A MOV E,D (R201). -/
  | movED
  /-- 0x5B MOV E,E (R201). -/
  | movEE
  /-- 0x5C MOV E,H (R201). -/
  | movEH
  /-- 0x5D MOV E,L (R201). -/
  | movEL
  /-- 0x5F MOV E,A (R201). -/
  | movEA
  /-- 0x60 MOV H,B (R201). -/
  | movHB
  /-- 0x61 MOV H,C (R201). -/
  | movHC
  /-- 0x62 MOV H,D (R201). -/
  | movHD
  /-- 0x63 MOV H,E (R201). -/
  | movHE
  /-- 0x64 MOV H,H (R201). -/
  | movHH
  /-- 0x65 MOV H,L (R201). -/
  | movHL
  /-- 0x67 MOV H,A (R201). -/
  | movHA
  /-- 0x68 MOV L,B (R201). -/
  | movLB
  /-- 0x69 MOV L,C (R201). -/
  | movLC
  /-- 0x6A MOV L,D (R201). -/
  | movLD
  /-- 0x6B MOV L,E (R201). -/
  | movLE
  /-- 0x6C MOV L,H (R201). -/
  | movLH
  /-- 0x6D MOV L,L (R201). -/
  | movLL
  /-- 0x6F MOV L,A (R201). -/
  | movLA
  /-- 0x78 MOV A,B (R201). -/
  | movAB
  /-- 0x79 MOV A,C (R201). -/
  | movAC
  /-- 0x7A MOV A,D (R201). -/
  | movAD
  /-- 0x7B MOV A,E (R201). -/
  | movAE
  /-- 0x7C MOV A,H (R201). -/
  | movAH
  /-- 0x7D MOV A,L (R201). -/
  | movAL
  /-- 0x7F MOV A,A (R201). -/
  | movAA
  /-- 0x46 MOV B,M (R202). -/
  | movBM
  /-- 0x4E MOV C,M (R202). -/
  | movCM
  /-- 0x56 MOV D,M (R202). -/
  | movDM
  /-- 0x5E MOV E,M (R202). -/
  | movEM
  /-- 0x66 MOV H,M (R202). -/
  | movHM
  /-- 0x6E MOV L,M (R202). -/
  | movLM
  /-- 0x7E MOV A,M (R202). -/
  | movAM
  /-- 0x70 MOV M,B (R203). -/
  | movMB
  /-- 0x71 MOV M,C (R203). -/
  | movMC
  /-- 0x72 MOV M,D (R203). -/
  | movMD
  /-- 0x73 MOV M,E (R203). -/
  | movME
  /-- 0x74 MOV M,H (R203). -/
  | movMH
  /-- 0x75 MOV M,L (R203). -/
  | movML
  /-- 0x77 MOV M,A (R203). -/
  | movMA
  /-- 0x06 MVI B,d8 (R204). -/
  | mviB (imm : Byte)
  /-- 0x0E MVI C,d8 (R204). -/
  | mviC (imm : Byte)
  /-- 0x16 MVI D,d8 (R204). -/
  | mviD (imm : Byte)
  /-- 0x1E MVI E,d8 (R204). -/
  | mviE (imm : Byte)
  /-- 0x26 MVI H,d8 (R204). -/
  | mviH (imm : Byte)
  /-- 0x2E MVI L,d8 (R204). -/
  | mviL (imm : Byte)
  /-- 0x3E MVI A,d8 (R204). -/
  | mviA (imm : Byte)
  /-- 0x36 MVI M,d8 (R205). -/
  | mviM (imm : Byte)
  /-- 0x01 LXI B,d16 (R206). -/
  | lxiB (imm : Word)
  /-- 0x11 LXI D,d16 (R206). -/
  | lxiD (imm : Word)
  /-- 0x21 LXI H,d16 (R206). -/
  | lxiH (imm : Word)
  /-- 0x31 LXI SP,d16 (R207). -/
  | lxiSP (imm : Word)
  /-- 0x3A LDA addr (R208). -/
  | lda (addr : Word)
  /-- 0x32 STA addr (R209). -/
  | sta (addr : Word)
  /-- 0x0A LDAX B (R210). -/
  | ldaxB
  /-- 0x1A LDAX D (R211). -/
  | ldaxD
  /-- 0x02 STAX B (R212). -/
  | staxB
  /-- 0x12 STAX D (R213). -/
  | staxD
  /-- 0x2A LHLD addr (R214). -/
  | lhld (addr : Word)
  /-- 0x22 SHLD addr (R215). -/
  | shld (addr : Word)
  /-- 0xEB XCHG (R216). -/
  | xchg
  /-- 0xA0 ANA B (R271). -/
  | anaB
  /-- 0xA1 ANA C (R271). -/
  | anaC
  /-- 0xA2 ANA D (R271). -/
  | anaD
  /-- 0xA3 ANA E (R271). -/
  | anaE
  /-- 0xA4 ANA H (R271). -/
  | anaH
  /-- 0xA5 ANA L (R271). -/
  | anaL
  /-- 0xA7 ANA A (R271). -/
  | anaA
  /-- 0xA6 ANA M (R272). -/
  | anaM
  /-- 0xE6 ANI d8 (R273). -/
  | ani (imm : Byte)
  /-- 0xA8 XRA B (R274). -/
  | xraB
  /-- 0xA9 XRA C (R274). -/
  | xraC
  /-- 0xAA XRA D (R274). -/
  | xraD
  /-- 0xAB XRA E (R274). -/
  | xraE
  /-- 0xAC XRA H (R274). -/
  | xraH
  /-- 0xAD XRA L (R274). -/
  | xraL
  /-- 0xAF XRA A (R274). -/
  | xraA
  /-- 0xAE XRA M (R275). -/
  | xraM
  /-- 0xEE XRI d8 (R276). -/
  | xri (imm : Byte)
  /-- 0xB0 ORA B (R277). -/
  | oraB
  /-- 0xB1 ORA C (R277). -/
  | oraC
  /-- 0xB2 ORA D (R277). -/
  | oraD
  /-- 0xB3 ORA E (R277). -/
  | oraE
  /-- 0xB4 ORA H (R277). -/
  | oraH
  /-- 0xB5 ORA L (R277). -/
  | oraL
  /-- 0xB7 ORA A (R277). -/
  | oraA
  /-- 0xB6 ORA M (R278). -/
  | oraM
  /-- 0xF6 ORI d8 (R279). -/
  | ori (imm : Byte)
  /-- 0xB8 CMP B (R280). -/
  | cmpB
  /-- 0xB9 CMP C (R280). -/
  | cmpC
  /-- 0xBA CMP D (R280). -/
  | cmpD
  /-- 0xBB CMP E (R280). -/
  | cmpE
  /-- 0xBC CMP H (R280). -/
  | cmpH
  /-- 0xBD CMP L (R280). -/
  | cmpL
  /-- 0xBF CMP A (R280). -/
  | cmpA
  /-- 0xBE CMP M (R281). -/
  | cmpM
  /-- 0xFE CPI d8 (R282). -/
  | cpi (imm : Byte)
  /-- 0x07 RLC (R283). -/
  | rlc
  /-- 0x0F RRC (R284). -/
  | rrc
  /-- 0x17 RAL (R285). -/
  | ral
  /-- 0x1F RAR (R286). -/
  | rar
  /-- 0x2F CMA (R287). -/
  | cma
  /-- 0x3F CMC (R288). -/
  | cmc
  /-- 0x37 STC (R289). -/
  | stc
  /-- 0xC3 JMP addr (R302). -/
  | jmp (addr : Word)
  /-- 0xC2 JNZ addr (R304). -/
  | jnz (addr : Word)
  /-- 0xCA JZ addr (R305). -/
  | jz (addr : Word)
  /-- 0xD2 JNC addr (R306). -/
  | jnc (addr : Word)
  /-- 0xDA JC addr (R307). -/
  | jc (addr : Word)
  /-- 0xE2 JPO addr (R308). -/
  | jpo (addr : Word)
  /-- 0xEA JPE addr (R309). -/
  | jpe (addr : Word)
  /-- 0xF2 JP addr (R310). -/
  | jp (addr : Word)
  /-- 0xFA JM addr (R311). -/
  | jm (addr : Word)
  /-- 0xCD CALL addr (R312). -/
  | call (addr : Word)
  /-- 0xC4 CNZ addr (R314). -/
  | cnz (addr : Word)
  /-- 0xCC CZ addr (R315). -/
  | cz (addr : Word)
  /-- 0xD4 CNC addr (R316). -/
  | cnc (addr : Word)
  /-- 0xDC CC addr (R317). -/
  | cc (addr : Word)
  /-- 0xE4 CPO addr (R318). -/
  | cpo (addr : Word)
  /-- 0xEC CPE addr (R319). -/
  | cpe (addr : Word)
  /-- 0xF4 CP addr (R320). -/
  | cp (addr : Word)
  /-- 0xFC CM addr (R321). -/
  | cm (addr : Word)
  /-- 0xC9 RET (R322). -/
  | ret
  /-- 0xC0 RNZ (R324). -/
  | rnz
  /-- 0xC8 RZ (R325). -/
  | rz
  /-- 0xD0 RNC (R326). -/
  | rnc
  /-- 0xD8 RC (R327). -/
  | rc
  /-- 0xE0 RPO (R328). -/
  | rpo
  /-- 0xE8 RPE (R329). -/
  | rpe
  /-- 0xF0 RP (R330). -/
  | rp
  /-- 0xF8 RM (R331). -/
  | rm
  /-- 0xC7 RST 0 (R332). -/
  | rst0
  /-- 0xCF RST 1 (R332). -/
  | rst1
  /-- 0xD7 RST 2 (R332). -/
  | rst2
  /-- 0xDF RST 3 (R332). -/
  | rst3
  /-- 0xE7 RST 4 (R332). -/
  | rst4
  /-- 0xEF RST 5 (R332). -/
  | rst5
  /-- 0xF7 RST 6 (R332). -/
  | rst6
  /-- 0xFF RST 7 (R332). -/
  | rst7
  /-- 0xE9 PCHL (R333). -/
  | pchl
  /-- 0xC5 PUSH B (R334). -/
  | pushB
  /-- 0xD5 PUSH D (R334). -/
  | pushD
  /-- 0xE5 PUSH H (R334). -/
  | pushH
  /-- 0xF5 PUSH PSW (R335). -/
  | pushPSW
  /-- 0xC1 POP B (R336). -/
  | popB
  /-- 0xD1 POP D (R336). -/
  | popD
  /-- 0xE1 POP H (R336). -/
  | popH
  /-- 0xF1 POP PSW (R337). -/
  | popPSW
  /-- 0xE3 XTHL (R338). -/
  | xthl
  /-- 0xF9 SPHL (R339). -/
  | sphl
  /-- 0xCB JMP addr when CB_ALIAS = JMP (R340). -/
  | jmpCB (addr : Word)
  /-- 0xCB RET, behaves as 0xC9 when CB_ALIAS = RET (R340). -/
  | retCB
  /-- 0xD9 RET, behaves as 0xC9 (R341). -/
  | retD9
  /-- 0xDD CALL addr, behaves as 0xCD (R342). -/
  | callDD (addr : Word)
  /-- 0xED CALL addr, behaves as 0xCD (R342). -/
  | callED (addr : Word)
  /-- 0xFD CALL addr, behaves as 0xCD (R342). -/
  | callFD (addr : Word)
  /-- 0x76 HLT (R361). -/
  | hlt
  /-- 0x00 NOP (R362). -/
  | nop
  /-- 0x08 NOP, behaves as 0x00 (R363). -/
  | nop08
  /-- 0x10 NOP, behaves as 0x00 (R363). -/
  | nop10
  /-- 0x18 NOP, behaves as 0x00 (R363). -/
  | nop18
  /-- 0x20 NOP, behaves as 0x00 (R363). -/
  | nop20
  /-- 0x28 NOP, behaves as 0x00 (R363). -/
  | nop28
  /-- 0x30 NOP, behaves as 0x00 (R363). -/
  | nop30
  /-- 0x38 NOP, behaves as 0x00 (R363). -/
  | nop38
  /-- 0xFB EI (R364). -/
  | ei
  /-- 0xF3 DI (R365). -/
  | di
  /-- 0xDB IN d8 (R366). -/
  | inPort (port : Byte)
  /-- 0xD3 OUT d8 (R367). -/
  | outPort (port : Byte)
  /-- 0x80 ADD B (R231). -/
  | addB
  /-- 0x81 ADD C (R231). -/
  | addC
  /-- 0x82 ADD D (R231). -/
  | addD
  /-- 0x83 ADD E (R231). -/
  | addE
  /-- 0x84 ADD H (R231). -/
  | addH
  /-- 0x85 ADD L (R231). -/
  | addL
  /-- 0x87 ADD A (R231). -/
  | addA
  /-- 0x86 ADD M (R232). -/
  | addM
  /-- 0xC6 ADI d8 (R233). -/
  | adi (imm : Byte)
  /-- 0x88 ADC B (R234). -/
  | adcB
  /-- 0x89 ADC C (R234). -/
  | adcC
  /-- 0x8A ADC D (R234). -/
  | adcD
  /-- 0x8B ADC E (R234). -/
  | adcE
  /-- 0x8C ADC H (R234). -/
  | adcH
  /-- 0x8D ADC L (R234). -/
  | adcL
  /-- 0x8F ADC A (R234). -/
  | adcA
  /-- 0x8E ADC M (R235). -/
  | adcM
  /-- 0xCE ACI d8 (R236). -/
  | aci (imm : Byte)
  /-- 0x90 SUB B (R237). -/
  | subB
  /-- 0x91 SUB C (R237). -/
  | subC
  /-- 0x92 SUB D (R237). -/
  | subD
  /-- 0x93 SUB E (R237). -/
  | subE
  /-- 0x94 SUB H (R237). -/
  | subH
  /-- 0x95 SUB L (R237). -/
  | subL
  /-- 0x97 SUB A (R237). -/
  | subA
  /-- 0x96 SUB M (R238). -/
  | subM
  /-- 0xD6 SUI d8 (R239). -/
  | sui (imm : Byte)
  /-- 0x98 SBB B (R240). -/
  | sbbB
  /-- 0x99 SBB C (R240). -/
  | sbbC
  /-- 0x9A SBB D (R240). -/
  | sbbD
  /-- 0x9B SBB E (R240). -/
  | sbbE
  /-- 0x9C SBB H (R240). -/
  | sbbH
  /-- 0x9D SBB L (R240). -/
  | sbbL
  /-- 0x9F SBB A (R240). -/
  | sbbA
  /-- 0x9E SBB M (R241). -/
  | sbbM
  /-- 0xDE SBI d8 (R242). -/
  | sbi (imm : Byte)
  /-- 0x04 INR B (R243). -/
  | inrB
  /-- 0x0C INR C (R243). -/
  | inrC
  /-- 0x14 INR D (R243). -/
  | inrD
  /-- 0x1C INR E (R243). -/
  | inrE
  /-- 0x24 INR H (R243). -/
  | inrH
  /-- 0x2C INR L (R243). -/
  | inrL
  /-- 0x3C INR A (R243). -/
  | inrA
  /-- 0x34 INR M (R244). -/
  | inrM
  /-- 0x05 DCR B (R245). -/
  | dcrB
  /-- 0x0D DCR C (R245). -/
  | dcrC
  /-- 0x15 DCR D (R245). -/
  | dcrD
  /-- 0x1D DCR E (R245). -/
  | dcrE
  /-- 0x25 DCR H (R245). -/
  | dcrH
  /-- 0x2D DCR L (R245). -/
  | dcrL
  /-- 0x3D DCR A (R245). -/
  | dcrA
  /-- 0x35 DCR M (R246). -/
  | dcrM
  /-- 0x03 INX B (R247). -/
  | inxB
  /-- 0x13 INX D (R247). -/
  | inxD
  /-- 0x23 INX H (R247). -/
  | inxH
  /-- 0x33 INX SP (R248). -/
  | inxSP
  /-- 0x0B DCX B (R249). -/
  | dcxB
  /-- 0x1B DCX D (R249). -/
  | dcxD
  /-- 0x2B DCX H (R249). -/
  | dcxH
  /-- 0x3B DCX SP (R250). -/
  | dcxSP
  /-- 0x09 DAD B (R251). -/
  | dadB
  /-- 0x19 DAD D (R251). -/
  | dadD
  /-- 0x29 DAD H (R251). -/
  | dadH
  /-- 0x39 DAD SP (R252). -/
  | dadSP
  /-- 0x27 DAA (R253). -/
  | daa
  deriving DecidableEq, Repr

end Sys2Proof
end

