-- ==== Sys2Proof/WellFormed.lean ====
section
/-! DEFINITION. Which instructions a machine has. Every operand value of every form is legal (30_encoding.md R132),
so the one check is the byte 0xCB: it is `retCB` when CB_ALIAS = RET and `jmpCB` when CB_ALIAS = JMP, never the
other (R131, R340; 43_branch_stack.md). -/

namespace Sys2Proof

/-- `i` is an instruction of the machine whose CB_ALIAS is `cb` (R131, R132, R340). -/
def Instr.wellFormed (cb : CbAlias) (i : Instr) : Bool :=
  match i with
  | .retCB => decide (cb = .ret)
  | .jmpCB _ => decide (cb = .jmp)
  | .nop | .lxiB _ | .staxB | .inxB | .inrB | .dcrB | .mviB _ | .rlc | .nop08 | .dadB | .ldaxB | .dcxB | .inrC
  | .dcrC | .mviC _ | .rrc | .nop10 | .lxiD _ | .staxD | .inxD | .inrD | .dcrD | .mviD _ | .ral | .nop18
  | .dadD | .ldaxD | .dcxD | .inrE | .dcrE | .mviE _ | .rar | .nop20 | .lxiH _ | .shld _ | .inxH | .inrH
  | .dcrH | .mviH _ | .daa | .nop28 | .dadH | .lhld _ | .dcxH | .inrL | .dcrL | .mviL _ | .cma | .nop30
  | .lxiSP _ | .sta _ | .inxSP | .inrM | .dcrM | .mviM _ | .stc | .nop38 | .dadSP | .lda _ | .dcxSP | .inrA
  | .dcrA | .mviA _ | .cmc | .movBB | .movBC | .movBD | .movBE | .movBH | .movBL | .movBM | .movBA | .movCB
  | .movCC | .movCD | .movCE | .movCH | .movCL | .movCM | .movCA | .movDB | .movDC | .movDD | .movDE | .movDH
  | .movDL | .movDM | .movDA | .movEB | .movEC | .movED | .movEE | .movEH | .movEL | .movEM | .movEA | .movHB
  | .movHC | .movHD | .movHE | .movHH | .movHL | .movHM | .movHA | .movLB | .movLC | .movLD | .movLE | .movLH
  | .movLL | .movLM | .movLA | .movMB | .movMC | .movMD | .movME | .movMH | .movML | .hlt | .movMA | .movAB
  | .movAC | .movAD | .movAE | .movAH | .movAL | .movAM | .movAA | .addB | .addC | .addD | .addE | .addH
  | .addL | .addM | .addA | .adcB | .adcC | .adcD | .adcE | .adcH | .adcL | .adcM | .adcA | .subB | .subC
  | .subD | .subE | .subH | .subL | .subM | .subA | .sbbB | .sbbC | .sbbD | .sbbE | .sbbH | .sbbL | .sbbM
  | .sbbA | .anaB | .anaC | .anaD | .anaE | .anaH | .anaL | .anaM | .anaA | .xraB | .xraC | .xraD | .xraE
  | .xraH | .xraL | .xraM | .xraA | .oraB | .oraC | .oraD | .oraE | .oraH | .oraL | .oraM | .oraA | .cmpB
  | .cmpC | .cmpD | .cmpE | .cmpH | .cmpL | .cmpM | .cmpA | .rnz | .popB | .jnz _ | .jmp _ | .cnz _ | .pushB
  | .adi _ | .rst0 | .rz | .ret | .jz _ | .cz _ | .call _ | .aci _ | .rst1 | .rnc | .popD | .jnc _ | .outPort _
  | .cnc _ | .pushD | .sui _ | .rst2 | .rc | .retD9 | .jc _ | .inPort _ | .cc _ | .callDD _ | .sbi _ | .rst3
  | .rpo | .popH | .jpo _ | .xthl | .cpo _ | .pushH | .ani _ | .rst4 | .rpe | .pchl | .jpe _ | .xchg | .cpe _
  | .callED _ | .xri _ | .rst5 | .rp | .popPSW | .jp _ | .di | .cp _ | .pushPSW | .ori _ | .rst6 | .rm | .sphl
  | .jm _ | .ei | .cm _ | .callFD _ | .cpi _ | .rst7 => true

end Sys2Proof
end

