-- ==== Sys2Proof/Decode.lean ====
section
/-! DEFINITION. The decoder, total on any bytes, and after it the encoder. The decoder is the 256-entry table of
30_encoding.md R130 and R133, row by row as R130 prints it; the encoder is written from the Encoding lines of the
instruction rules R201 to R367. Word assembly and splitting stand here too (R35, R36, R87, R128). -/

namespace Sys2Proof

/-- The high byte of a word, `(v >> 8) & 0xFF` (R36, R86). -/
def hiByte (w : Word) : Byte := w.extractLsb' 8 8

/-- The low byte of a word, `v & 0xFF` (R36, R86). -/
def loByte (w : Word) : Byte := w.extractLsb' 0 8

/-- `(hi << 8) | lo` (R10, R35, R85, R128). -/
def assemble (hi lo : Byte) : Word := hi ++ lo

/-! ### The opcode map -/

/-- One entry of the instruction table, by its format: F1 has no operand (R121), F2 one byte (R122), F3 two bytes,
the low one first (R123). -/
inductive Entry where
  | f1 (i : Instr)
  | f2 (k : Byte → Instr)
  | f3 (k : Word → Instr)

/-- Row 0x of the map (R130). -/
def mapRow0 : Vector Entry 16 :=
  #v[ .f1 .nop, .f3 .lxiB, .f1 .staxB, .f1 .inxB, .f1 .inrB, .f1 .dcrB, .f2 .mviB, .f1 .rlc, .f1 .nop08,
    .f1 .dadB, .f1 .ldaxB, .f1 .dcxB, .f1 .inrC, .f1 .dcrC, .f2 .mviC, .f1 .rrc ]

/-- Row 1x of the map (R130). -/
def mapRow1 : Vector Entry 16 :=
  #v[ .f1 .nop10, .f3 .lxiD, .f1 .staxD, .f1 .inxD, .f1 .inrD, .f1 .dcrD, .f2 .mviD, .f1 .ral, .f1 .nop18,
    .f1 .dadD, .f1 .ldaxD, .f1 .dcxD, .f1 .inrE, .f1 .dcrE, .f2 .mviE, .f1 .rar ]

/-- Row 2x of the map (R130). -/
def mapRow2 : Vector Entry 16 :=
  #v[ .f1 .nop20, .f3 .lxiH, .f3 .shld, .f1 .inxH, .f1 .inrH, .f1 .dcrH, .f2 .mviH, .f1 .daa, .f1 .nop28,
    .f1 .dadH, .f3 .lhld, .f1 .dcxH, .f1 .inrL, .f1 .dcrL, .f2 .mviL, .f1 .cma ]

/-- Row 3x of the map (R130). -/
def mapRow3 : Vector Entry 16 :=
  #v[ .f1 .nop30, .f3 .lxiSP, .f3 .sta, .f1 .inxSP, .f1 .inrM, .f1 .dcrM, .f2 .mviM, .f1 .stc, .f1 .nop38,
    .f1 .dadSP, .f3 .lda, .f1 .dcxSP, .f1 .inrA, .f1 .dcrA, .f2 .mviA, .f1 .cmc ]

/-- Row 4x of the map (R130). -/
def mapRow4 : Vector Entry 16 :=
  #v[ .f1 .movBB, .f1 .movBC, .f1 .movBD, .f1 .movBE, .f1 .movBH, .f1 .movBL, .f1 .movBM, .f1 .movBA, .f1 .movCB,
    .f1 .movCC, .f1 .movCD, .f1 .movCE, .f1 .movCH, .f1 .movCL, .f1 .movCM, .f1 .movCA ]

/-- Row 5x of the map (R130). -/
def mapRow5 : Vector Entry 16 :=
  #v[ .f1 .movDB, .f1 .movDC, .f1 .movDD, .f1 .movDE, .f1 .movDH, .f1 .movDL, .f1 .movDM, .f1 .movDA, .f1 .movEB,
    .f1 .movEC, .f1 .movED, .f1 .movEE, .f1 .movEH, .f1 .movEL, .f1 .movEM, .f1 .movEA ]

/-- Row 6x of the map (R130). -/
def mapRow6 : Vector Entry 16 :=
  #v[ .f1 .movHB, .f1 .movHC, .f1 .movHD, .f1 .movHE, .f1 .movHH, .f1 .movHL, .f1 .movHM, .f1 .movHA, .f1 .movLB,
    .f1 .movLC, .f1 .movLD, .f1 .movLE, .f1 .movLH, .f1 .movLL, .f1 .movLM, .f1 .movLA ]

/-- Row 7x of the map (R130). -/
def mapRow7 : Vector Entry 16 :=
  #v[ .f1 .movMB, .f1 .movMC, .f1 .movMD, .f1 .movME, .f1 .movMH, .f1 .movML, .f1 .hlt, .f1 .movMA, .f1 .movAB,
    .f1 .movAC, .f1 .movAD, .f1 .movAE, .f1 .movAH, .f1 .movAL, .f1 .movAM, .f1 .movAA ]

/-- Row 8x of the map (R130). -/
def mapRow8 : Vector Entry 16 :=
  #v[ .f1 .addB, .f1 .addC, .f1 .addD, .f1 .addE, .f1 .addH, .f1 .addL, .f1 .addM, .f1 .addA, .f1 .adcB,
    .f1 .adcC, .f1 .adcD, .f1 .adcE, .f1 .adcH, .f1 .adcL, .f1 .adcM, .f1 .adcA ]

/-- Row 9x of the map (R130). -/
def mapRow9 : Vector Entry 16 :=
  #v[ .f1 .subB, .f1 .subC, .f1 .subD, .f1 .subE, .f1 .subH, .f1 .subL, .f1 .subM, .f1 .subA, .f1 .sbbB,
    .f1 .sbbC, .f1 .sbbD, .f1 .sbbE, .f1 .sbbH, .f1 .sbbL, .f1 .sbbM, .f1 .sbbA ]

/-- Row Ax of the map (R130). -/
def mapRowA : Vector Entry 16 :=
  #v[ .f1 .anaB, .f1 .anaC, .f1 .anaD, .f1 .anaE, .f1 .anaH, .f1 .anaL, .f1 .anaM, .f1 .anaA, .f1 .xraB,
    .f1 .xraC, .f1 .xraD, .f1 .xraE, .f1 .xraH, .f1 .xraL, .f1 .xraM, .f1 .xraA ]

/-- Row Bx of the map (R130). -/
def mapRowB : Vector Entry 16 :=
  #v[ .f1 .oraB, .f1 .oraC, .f1 .oraD, .f1 .oraE, .f1 .oraH, .f1 .oraL, .f1 .oraM, .f1 .oraA, .f1 .cmpB,
    .f1 .cmpC, .f1 .cmpD, .f1 .cmpE, .f1 .cmpH, .f1 .cmpL, .f1 .cmpM, .f1 .cmpA ]

/-- Row Cx of the map (R130). Its byte 0xCB follows CB_ALIAS (R131, R340). -/
def mapRowC (cb : CbAlias) : Vector Entry 16 :=
  #v[ .f1 .rnz, .f1 .popB, .f3 .jnz, .f3 .jmp, .f3 .cnz, .f1 .pushB, .f2 .adi, .f1 .rst0, .f1 .rz, .f1 .ret,
    .f3 .jz, (if cb = .ret then .f1 .retCB else .f3 .jmpCB), .f3 .cz, .f3 .call, .f2 .aci, .f1 .rst1 ]

/-- Row Dx of the map (R130). -/
def mapRowD : Vector Entry 16 :=
  #v[ .f1 .rnc, .f1 .popD, .f3 .jnc, .f2 .outPort, .f3 .cnc, .f1 .pushD, .f2 .sui, .f1 .rst2, .f1 .rc,
    .f1 .retD9, .f3 .jc, .f2 .inPort, .f3 .cc, .f3 .callDD, .f2 .sbi, .f1 .rst3 ]

/-- Row Ex of the map (R130). -/
def mapRowE : Vector Entry 16 :=
  #v[ .f1 .rpo, .f1 .popH, .f3 .jpo, .f1 .xthl, .f3 .cpo, .f1 .pushH, .f2 .ani, .f1 .rst4, .f1 .rpe, .f1 .pchl,
    .f3 .jpe, .f1 .xchg, .f3 .cpe, .f3 .callED, .f2 .xri, .f1 .rst5 ]

/-- Row Fx of the map (R130). -/
def mapRowF : Vector Entry 16 :=
  #v[ .f1 .rp, .f1 .popPSW, .f3 .jp, .f1 .di, .f3 .cp, .f1 .pushPSW, .f2 .ori, .f1 .rst6, .f1 .rm, .f1 .sphl,
    .f3 .jm, .f1 .ei, .f3 .cm, .f3 .callFD, .f2 .cpi, .f1 .rst7 ]

/-- The whole map: row = high hex digit, column = low hex digit (R130, R133). It is exhaustive by its type:
sixteen rows of sixteen entries, one for every byte value (R132, R134). -/
def opcodeMap (cb : CbAlias) : Vector (Vector Entry 16) 16 :=
  #v[ mapRow0, mapRow1, mapRow2, mapRow3, mapRow4, mapRow5, mapRow6, mapRow7,
      mapRow8, mapRow9, mapRowA, mapRowB, mapRowC cb, mapRowD, mapRowE, mapRowF ]

/-- `Table[op]` (R133, R140). -/
def entryOf (cb : CbAlias) (op : Byte) : Entry :=
  ((opcodeMap cb)[op.toNat / 16]'(by have := op.isLt; omega))[op.toNat % 16]'(Nat.mod_lt _ (by decide))

/-- How many operand bytes an entry declares (R120, R129, R133). -/
def Entry.operands : Entry → Nat
  | .f1 _ => 0
  | .f2 _ => 1
  | .f3 _ => 2

/-- The instruction an entry reads from the two bytes after the opcode (R128): `d8 = b2`,
`d16 = addr = (b3 << 8) | b2`. -/
def Entry.read (b2 b3 : Byte) : Entry → Instr
  | .f1 i => i
  | .f2 k => k b2
  | .f3 k => k (assemble b3 b2)

/-- The instruction the three fetched bytes stand for (R133, R140). No byte value is refused (R132). -/
def decode (cb : CbAlias) (op b2 b3 : Byte) : Instr := (entryOf cb op).read b2 b3

/-- Why a list of bytes holds no instruction. -/
inductive DecodeError where
  /-- The list is empty. -/
  | noOpcode
  /-- The list ends before the operand bytes the opcode declares (R129). -/
  | missingOperand (opcode : Byte)
  deriving DecidableEq, Repr

/-- Reads one instruction from the front of a list of bytes (R120, R128) and answers the rest of the list. -/
def decodeBytes (cb : CbAlias) : List Byte → Except DecodeError (Instr × List Byte)
  | [] => .error .noOpcode
  | op :: rest =>
    match entryOf cb op, rest with
    | .f1 i, rest => .ok (i, rest)
    | .f2 k, b2 :: rest => .ok (k b2, rest)
    | .f3 k, b2 :: b3 :: rest => .ok (k (assemble b3 b2), rest)
    | .f2 _, [] => .error (.missingOperand op)
    | .f3 _, [] => .error (.missingOperand op)
    | .f3 _, [_] => .error (.missingOperand op)

/-- How many operand bytes follow an opcode byte, by the bit tests of R129; 0xCB has two when CB_ALIAS = JMP
(R123, R131). -/
def operandBytesOf (cb : CbAlias) (op : Byte) : Nat :=
  if op &&& 0xCF = 0x01 ∨ op &&& 0xE7 = 0x22 ∨ op &&& 0xC7 = 0xC2 ∨ op &&& 0xC7 = 0xC4 ∨ op = 0xC3 ∨
      op &&& 0xCF = 0xCD ∨ (op = 0xCB ∧ cb = .jmp) then 2
  else if op &&& 0xC7 = 0x06 ∨ op &&& 0xC7 = 0xC6 ∨ op = 0xD3 ∨ op = 0xDB then 1
  else 0

/-- The three bytes at a fetch address for an instruction word whose bit 0 is the least significant bit of its
first byte: bits 7..0 at the lowest address, then 15..8, then 23..16; bits above `nbits` are 0. -/
def tableBytes (nbits w : Nat) : List Byte :=
  let v := w % 2 ^ nbits
  [BitVec.ofNat 8 v, BitVec.ofNat 8 (v / 256), BitVec.ofNat 8 (v / 65536)]

/-- The instruction the decoder reads from the word `w` of `nbits` bits, with CB_ALIAS at its default; none when
the word has no whole opcode byte. -/
def decodeTableWord (nbits w : Nat) : Option Instr :=
  if nbits < 8 then none
  else
    match decodeBytes Config.defaultParams.cbAlias (tableBytes nbits w) with
    | .ok (i, _) => some i
    | .error _ => none

/-! ### The encoder and the descriptor of an instruction -/

/-- The bytes of an instruction: the opcode byte, then d8, or the low and the high operand byte (R121, R122,
R123; the Encoding lines of R201 to R367). -/
def encode (i : Instr) : List Byte :=
  match i with
  | .nop => [0x00]
  | .lxiB imm => [0x01, loByte imm, hiByte imm]
  | .staxB => [0x02]
  | .inxB => [0x03]
  | .inrB => [0x04]
  | .dcrB => [0x05]
  | .mviB imm => [0x06, imm]
  | .rlc => [0x07]
  | .nop08 => [0x08]
  | .dadB => [0x09]
  | .ldaxB => [0x0A]
  | .dcxB => [0x0B]
  | .inrC => [0x0C]
  | .dcrC => [0x0D]
  | .mviC imm => [0x0E, imm]
  | .rrc => [0x0F]
  | .nop10 => [0x10]
  | .lxiD imm => [0x11, loByte imm, hiByte imm]
  | .staxD => [0x12]
  | .inxD => [0x13]
  | .inrD => [0x14]
  | .dcrD => [0x15]
  | .mviD imm => [0x16, imm]
  | .ral => [0x17]
  | .nop18 => [0x18]
  | .dadD => [0x19]
  | .ldaxD => [0x1A]
  | .dcxD => [0x1B]
  | .inrE => [0x1C]
  | .dcrE => [0x1D]
  | .mviE imm => [0x1E, imm]
  | .rar => [0x1F]
  | .nop20 => [0x20]
  | .lxiH imm => [0x21, loByte imm, hiByte imm]
  | .shld addr => [0x22, loByte addr, hiByte addr]
  | .inxH => [0x23]
  | .inrH => [0x24]
  | .dcrH => [0x25]
  | .mviH imm => [0x26, imm]
  | .daa => [0x27]
  | .nop28 => [0x28]
  | .dadH => [0x29]
  | .lhld addr => [0x2A, loByte addr, hiByte addr]
  | .dcxH => [0x2B]
  | .inrL => [0x2C]
  | .dcrL => [0x2D]
  | .mviL imm => [0x2E, imm]
  | .cma => [0x2F]
  | .nop30 => [0x30]
  | .lxiSP imm => [0x31, loByte imm, hiByte imm]
  | .sta addr => [0x32, loByte addr, hiByte addr]
  | .inxSP => [0x33]
  | .inrM => [0x34]
  | .dcrM => [0x35]
  | .mviM imm => [0x36, imm]
  | .stc => [0x37]
  | .nop38 => [0x38]
  | .dadSP => [0x39]
  | .lda addr => [0x3A, loByte addr, hiByte addr]
  | .dcxSP => [0x3B]
  | .inrA => [0x3C]
  | .dcrA => [0x3D]
  | .mviA imm => [0x3E, imm]
  | .cmc => [0x3F]
  | .movBB => [0x40]
  | .movBC => [0x41]
  | .movBD => [0x42]
  | .movBE => [0x43]
  | .movBH => [0x44]
  | .movBL => [0x45]
  | .movBM => [0x46]
  | .movBA => [0x47]
  | .movCB => [0x48]
  | .movCC => [0x49]
  | .movCD => [0x4A]
  | .movCE => [0x4B]
  | .movCH => [0x4C]
  | .movCL => [0x4D]
  | .movCM => [0x4E]
  | .movCA => [0x4F]
  | .movDB => [0x50]
  | .movDC => [0x51]
  | .movDD => [0x52]
  | .movDE => [0x53]
  | .movDH => [0x54]
  | .movDL => [0x55]
  | .movDM => [0x56]
  | .movDA => [0x57]
  | .movEB => [0x58]
  | .movEC => [0x59]
  | .movED => [0x5A]
  | .movEE => [0x5B]
  | .movEH => [0x5C]
  | .movEL => [0x5D]
  | .movEM => [0x5E]
  | .movEA => [0x5F]
  | .movHB => [0x60]
  | .movHC => [0x61]
  | .movHD => [0x62]
  | .movHE => [0x63]
  | .movHH => [0x64]
  | .movHL => [0x65]
  | .movHM => [0x66]
  | .movHA => [0x67]
  | .movLB => [0x68]
  | .movLC => [0x69]
  | .movLD => [0x6A]
  | .movLE => [0x6B]
  | .movLH => [0x6C]
  | .movLL => [0x6D]
  | .movLM => [0x6E]
  | .movLA => [0x6F]
  | .movMB => [0x70]
  | .movMC => [0x71]
  | .movMD => [0x72]
  | .movME => [0x73]
  | .movMH => [0x74]
  | .movML => [0x75]
  | .hlt => [0x76]
  | .movMA => [0x77]
  | .movAB => [0x78]
  | .movAC => [0x79]
  | .movAD => [0x7A]
  | .movAE => [0x7B]
  | .movAH => [0x7C]
  | .movAL => [0x7D]
  | .movAM => [0x7E]
  | .movAA => [0x7F]
  | .addB => [0x80]
  | .addC => [0x81]
  | .addD => [0x82]
  | .addE => [0x83]
  | .addH => [0x84]
  | .addL => [0x85]
  | .addM => [0x86]
  | .addA => [0x87]
  | .adcB => [0x88]
  | .adcC => [0x89]
  | .adcD => [0x8A]
  | .adcE => [0x8B]
  | .adcH => [0x8C]
  | .adcL => [0x8D]
  | .adcM => [0x8E]
  | .adcA => [0x8F]
  | .subB => [0x90]
  | .subC => [0x91]
  | .subD => [0x92]
  | .subE => [0x93]
  | .subH => [0x94]
  | .subL => [0x95]
  | .subM => [0x96]
  | .subA => [0x97]
  | .sbbB => [0x98]
  | .sbbC => [0x99]
  | .sbbD => [0x9A]
  | .sbbE => [0x9B]
  | .sbbH => [0x9C]
  | .sbbL => [0x9D]
  | .sbbM => [0x9E]
  | .sbbA => [0x9F]
  | .anaB => [0xA0]
  | .anaC => [0xA1]
  | .anaD => [0xA2]
  | .anaE => [0xA3]
  | .anaH => [0xA4]
  | .anaL => [0xA5]
  | .anaM => [0xA6]
  | .anaA => [0xA7]
  | .xraB => [0xA8]
  | .xraC => [0xA9]
  | .xraD => [0xAA]
  | .xraE => [0xAB]
  | .xraH => [0xAC]
  | .xraL => [0xAD]
  | .xraM => [0xAE]
  | .xraA => [0xAF]
  | .oraB => [0xB0]
  | .oraC => [0xB1]
  | .oraD => [0xB2]
  | .oraE => [0xB3]
  | .oraH => [0xB4]
  | .oraL => [0xB5]
  | .oraM => [0xB6]
  | .oraA => [0xB7]
  | .cmpB => [0xB8]
  | .cmpC => [0xB9]
  | .cmpD => [0xBA]
  | .cmpE => [0xBB]
  | .cmpH => [0xBC]
  | .cmpL => [0xBD]
  | .cmpM => [0xBE]
  | .cmpA => [0xBF]
  | .rnz => [0xC0]
  | .popB => [0xC1]
  | .jnz addr => [0xC2, loByte addr, hiByte addr]
  | .jmp addr => [0xC3, loByte addr, hiByte addr]
  | .cnz addr => [0xC4, loByte addr, hiByte addr]
  | .pushB => [0xC5]
  | .adi imm => [0xC6, imm]
  | .rst0 => [0xC7]
  | .rz => [0xC8]
  | .ret => [0xC9]
  | .jz addr => [0xCA, loByte addr, hiByte addr]
  | .retCB => [0xCB]
  | .cz addr => [0xCC, loByte addr, hiByte addr]
  | .call addr => [0xCD, loByte addr, hiByte addr]
  | .aci imm => [0xCE, imm]
  | .rst1 => [0xCF]
  | .rnc => [0xD0]
  | .popD => [0xD1]
  | .jnc addr => [0xD2, loByte addr, hiByte addr]
  | .outPort port => [0xD3, port]
  | .cnc addr => [0xD4, loByte addr, hiByte addr]
  | .pushD => [0xD5]
  | .sui imm => [0xD6, imm]
  | .rst2 => [0xD7]
  | .rc => [0xD8]
  | .retD9 => [0xD9]
  | .jc addr => [0xDA, loByte addr, hiByte addr]
  | .inPort port => [0xDB, port]
  | .cc addr => [0xDC, loByte addr, hiByte addr]
  | .callDD addr => [0xDD, loByte addr, hiByte addr]
  | .sbi imm => [0xDE, imm]
  | .rst3 => [0xDF]
  | .rpo => [0xE0]
  | .popH => [0xE1]
  | .jpo addr => [0xE2, loByte addr, hiByte addr]
  | .xthl => [0xE3]
  | .cpo addr => [0xE4, loByte addr, hiByte addr]
  | .pushH => [0xE5]
  | .ani imm => [0xE6, imm]
  | .rst4 => [0xE7]
  | .rpe => [0xE8]
  | .pchl => [0xE9]
  | .jpe addr => [0xEA, loByte addr, hiByte addr]
  | .xchg => [0xEB]
  | .cpe addr => [0xEC, loByte addr, hiByte addr]
  | .callED addr => [0xED, loByte addr, hiByte addr]
  | .xri imm => [0xEE, imm]
  | .rst5 => [0xEF]
  | .rp => [0xF0]
  | .popPSW => [0xF1]
  | .jp addr => [0xF2, loByte addr, hiByte addr]
  | .di => [0xF3]
  | .cp addr => [0xF4, loByte addr, hiByte addr]
  | .pushPSW => [0xF5]
  | .ori imm => [0xF6, imm]
  | .rst6 => [0xF7]
  | .rm => [0xF8]
  | .sphl => [0xF9]
  | .jm addr => [0xFA, loByte addr, hiByte addr]
  | .ei => [0xFB]
  | .cm addr => [0xFC, loByte addr, hiByte addr]
  | .callFD addr => [0xFD, loByte addr, hiByte addr]
  | .cpi imm => [0xFE, imm]
  | .rst7 => [0xFF]
  | .jmpCB addr => [0xCB, loByte addr, hiByte addr]

/-- The opcode byte of an instruction, the one a fault report names (R120, R403). -/
def opcodeOf (i : Instr) : Byte := (encode i).headD 0

/-- How many operand bytes an instruction has (R120, R133). -/
def operandBytes (i : Instr) : Nat := (encode i).length - 1

/-- The PC-advance policy of an instruction's table entry (R133, R143, R150; C8). -/
def pcPolicy (i : Instr) : PcPolicy :=
  match i with
  | .jmp _ | .rst0 | .ret | .retCB | .call _ | .rst1 | .rst2 | .retD9 | .callDD _ | .rst3 | .rst4 | .pchl
  | .callED _ | .rst5 | .rst6 | .callFD _ | .rst7 | .jmpCB _ => .handler
  | .rnz | .jnz _ | .cnz _ | .rz | .jz _ | .cz _ | .rnc | .jnc _ | .cnc _ | .rc | .jc _ | .cc _ | .rpo | .jpo _
  | .cpo _ | .rpe | .jpe _ | .cpe _ | .rp | .jp _ | .cp _ | .rm | .jm _ | .cm _ => .handlerIfTaken
  | .nop | .lxiB _ | .staxB | .inxB | .inrB | .dcrB | .mviB _ | .rlc | .nop08 | .dadB | .ldaxB | .dcxB | .inrC
  | .dcrC | .mviC _ | .rrc | .nop10 | .lxiD _ | .staxD | .inxD | .inrD | .dcrD | .mviD _ | .ral | .nop18
  | .dadD | .ldaxD | .dcxD | .inrE | .dcrE | .mviE _ | .rar | .nop20 | .lxiH _ | .shld _ | .inxH | .inrH
  | .dcrH | .mviH _ | .daa | .nop28 | .dadH | .lhld _ | .dcxH | .inrL | .dcrL | .mviL _ | .cma | .nop30
  | .lxiSP _ | .sta _ | .inxSP | .inrM | .dcrM | .mviM _ | .stc | .nop38 | .dadSP | .lda _ | .dcxSP | .inrA
  | .dcrA | .mviA _ | .cmc | .movBB | .movBC | .movBD | .movBE | .movBH | .movBL | .movBM | .movBA | .movCB
  | .movCC | .movCD | .movCE | .movCH | .movCL | .movCM | .movCA | .movDB | .movDC | .movDD | .movDE | .movDH
  | .movDL | .movDM | .movDA | .movEB | .movEC | .movED | .movEE | .movEH | .movEL | .movEM | .movEA | .movHB
  | .movHC | .movHD | .movHE | .movHH | .movHL | .movHM | .movHA | .movLB | .movLC | .movLD | .movLE | .movLH
  | .movLL | .movLM | .movLA | .movMB | .movMC | .movMD | .movME | .movMH | .movML | .hlt | .movMA | .movAB
  | .movAC | .movAD | .movAE | .movAH | .movAL | .movAM | .movAA | .addB | .addC | .addD | .addE | .addH
  | .addL | .addM | .addA | .adcB | .adcC | .adcD | .adcE | .adcH | .adcL | .adcM | .adcA | .subB | .subC
  | .subD | .subE | .subH | .subL | .subM | .subA | .sbbB | .sbbC | .sbbD | .sbbE | .sbbH | .sbbL | .sbbM
  | .sbbA | .anaB | .anaC | .anaD | .anaE | .anaH | .anaL | .anaM | .anaA | .xraB | .xraC | .xraD | .xraE
  | .xraH | .xraL | .xraM | .xraA | .oraB | .oraC | .oraD | .oraE | .oraH | .oraL | .oraM | .oraA | .cmpB
  | .cmpC | .cmpD | .cmpE | .cmpH | .cmpL | .cmpM | .cmpA | .popB | .pushB | .adi _ | .aci _ | .popD
  | .outPort _ | .pushD | .sui _ | .inPort _ | .sbi _ | .popH | .xthl | .pushH | .ani _ | .xchg | .xri _
  | .popPSW | .di | .pushPSW | .ori _ | .sphl | .ei | .cpi _ => .dispatcher

/-- The mnemonic of an instruction's table entry, as the spec's text writes it (R133, R146, R147). -/
def mnemonicOf (i : Instr) : String :=
  match i with
  | .nop => "NOP"
  | .lxiB _ => "LXI B,d16"
  | .staxB => "STAX B"
  | .inxB => "INX B"
  | .inrB => "INR B"
  | .dcrB => "DCR B"
  | .mviB _ => "MVI B,d8"
  | .rlc => "RLC"
  | .nop08 => "NOP"
  | .dadB => "DAD B"
  | .ldaxB => "LDAX B"
  | .dcxB => "DCX B"
  | .inrC => "INR C"
  | .dcrC => "DCR C"
  | .mviC _ => "MVI C,d8"
  | .rrc => "RRC"
  | .nop10 => "NOP"
  | .lxiD _ => "LXI D,d16"
  | .staxD => "STAX D"
  | .inxD => "INX D"
  | .inrD => "INR D"
  | .dcrD => "DCR D"
  | .mviD _ => "MVI D,d8"
  | .ral => "RAL"
  | .nop18 => "NOP"
  | .dadD => "DAD D"
  | .ldaxD => "LDAX D"
  | .dcxD => "DCX D"
  | .inrE => "INR E"
  | .dcrE => "DCR E"
  | .mviE _ => "MVI E,d8"
  | .rar => "RAR"
  | .nop20 => "NOP"
  | .lxiH _ => "LXI H,d16"
  | .shld _ => "SHLD addr"
  | .inxH => "INX H"
  | .inrH => "INR H"
  | .dcrH => "DCR H"
  | .mviH _ => "MVI H,d8"
  | .daa => "DAA"
  | .nop28 => "NOP"
  | .dadH => "DAD H"
  | .lhld _ => "LHLD addr"
  | .dcxH => "DCX H"
  | .inrL => "INR L"
  | .dcrL => "DCR L"
  | .mviL _ => "MVI L,d8"
  | .cma => "CMA"
  | .nop30 => "NOP"
  | .lxiSP _ => "LXI SP,d16"
  | .sta _ => "STA addr"
  | .inxSP => "INX SP"
  | .inrM => "INR M"
  | .dcrM => "DCR M"
  | .mviM _ => "MVI M,d8"
  | .stc => "STC"
  | .nop38 => "NOP"
  | .dadSP => "DAD SP"
  | .lda _ => "LDA addr"
  | .dcxSP => "DCX SP"
  | .inrA => "INR A"
  | .dcrA => "DCR A"
  | .mviA _ => "MVI A,d8"
  | .cmc => "CMC"
  | .movBB => "MOV B,B"
  | .movBC => "MOV B,C"
  | .movBD => "MOV B,D"
  | .movBE => "MOV B,E"
  | .movBH => "MOV B,H"
  | .movBL => "MOV B,L"
  | .movBM => "MOV B,M"
  | .movBA => "MOV B,A"
  | .movCB => "MOV C,B"
  | .movCC => "MOV C,C"
  | .movCD => "MOV C,D"
  | .movCE => "MOV C,E"
  | .movCH => "MOV C,H"
  | .movCL => "MOV C,L"
  | .movCM => "MOV C,M"
  | .movCA => "MOV C,A"
  | .movDB => "MOV D,B"
  | .movDC => "MOV D,C"
  | .movDD => "MOV D,D"
  | .movDE => "MOV D,E"
  | .movDH => "MOV D,H"
  | .movDL => "MOV D,L"
  | .movDM => "MOV D,M"
  | .movDA => "MOV D,A"
  | .movEB => "MOV E,B"
  | .movEC => "MOV E,C"
  | .movED => "MOV E,D"
  | .movEE => "MOV E,E"
  | .movEH => "MOV E,H"
  | .movEL => "MOV E,L"
  | .movEM => "MOV E,M"
  | .movEA => "MOV E,A"
  | .movHB => "MOV H,B"
  | .movHC => "MOV H,C"
  | .movHD => "MOV H,D"
  | .movHE => "MOV H,E"
  | .movHH => "MOV H,H"
  | .movHL => "MOV H,L"
  | .movHM => "MOV H,M"
  | .movHA => "MOV H,A"
  | .movLB => "MOV L,B"
  | .movLC => "MOV L,C"
  | .movLD => "MOV L,D"
  | .movLE => "MOV L,E"
  | .movLH => "MOV L,H"
  | .movLL => "MOV L,L"
  | .movLM => "MOV L,M"
  | .movLA => "MOV L,A"
  | .movMB => "MOV M,B"
  | .movMC => "MOV M,C"
  | .movMD => "MOV M,D"
  | .movME => "MOV M,E"
  | .movMH => "MOV M,H"
  | .movML => "MOV M,L"
  | .hlt => "HLT"
  | .movMA => "MOV M,A"
  | .movAB => "MOV A,B"
  | .movAC => "MOV A,C"
  | .movAD => "MOV A,D"
  | .movAE => "MOV A,E"
  | .movAH => "MOV A,H"
  | .movAL => "MOV A,L"
  | .movAM => "MOV A,M"
  | .movAA => "MOV A,A"
  | .addB => "ADD B"
  | .addC => "ADD C"
  | .addD => "ADD D"
  | .addE => "ADD E"
  | .addH => "ADD H"
  | .addL => "ADD L"
  | .addM => "ADD M"
  | .addA => "ADD A"
  | .adcB => "ADC B"
  | .adcC => "ADC C"
  | .adcD => "ADC D"
  | .adcE => "ADC E"
  | .adcH => "ADC H"
  | .adcL => "ADC L"
  | .adcM => "ADC M"
  | .adcA => "ADC A"
  | .subB => "SUB B"
  | .subC => "SUB C"
  | .subD => "SUB D"
  | .subE => "SUB E"
  | .subH => "SUB H"
  | .subL => "SUB L"
  | .subM => "SUB M"
  | .subA => "SUB A"
  | .sbbB => "SBB B"
  | .sbbC => "SBB C"
  | .sbbD => "SBB D"
  | .sbbE => "SBB E"
  | .sbbH => "SBB H"
  | .sbbL => "SBB L"
  | .sbbM => "SBB M"
  | .sbbA => "SBB A"
  | .anaB => "ANA B"
  | .anaC => "ANA C"
  | .anaD => "ANA D"
  | .anaE => "ANA E"
  | .anaH => "ANA H"
  | .anaL => "ANA L"
  | .anaM => "ANA M"
  | .anaA => "ANA A"
  | .xraB => "XRA B"
  | .xraC => "XRA C"
  | .xraD => "XRA D"
  | .xraE => "XRA E"
  | .xraH => "XRA H"
  | .xraL => "XRA L"
  | .xraM => "XRA M"
  | .xraA => "XRA A"
  | .oraB => "ORA B"
  | .oraC => "ORA C"
  | .oraD => "ORA D"
  | .oraE => "ORA E"
  | .oraH => "ORA H"
  | .oraL => "ORA L"
  | .oraM => "ORA M"
  | .oraA => "ORA A"
  | .cmpB => "CMP B"
  | .cmpC => "CMP C"
  | .cmpD => "CMP D"
  | .cmpE => "CMP E"
  | .cmpH => "CMP H"
  | .cmpL => "CMP L"
  | .cmpM => "CMP M"
  | .cmpA => "CMP A"
  | .rnz => "RNZ"
  | .popB => "POP B"
  | .jnz _ => "JNZ addr"
  | .jmp _ => "JMP addr"
  | .cnz _ => "CNZ addr"
  | .pushB => "PUSH B"
  | .adi _ => "ADI d8"
  | .rst0 => "RST 0"
  | .rz => "RZ"
  | .ret => "RET"
  | .jz _ => "JZ addr"
  | .retCB => "RET"
  | .cz _ => "CZ addr"
  | .call _ => "CALL addr"
  | .aci _ => "ACI d8"
  | .rst1 => "RST 1"
  | .rnc => "RNC"
  | .popD => "POP D"
  | .jnc _ => "JNC addr"
  | .outPort _ => "OUT d8"
  | .cnc _ => "CNC addr"
  | .pushD => "PUSH D"
  | .sui _ => "SUI d8"
  | .rst2 => "RST 2"
  | .rc => "RC"
  | .retD9 => "RET"
  | .jc _ => "JC addr"
  | .inPort _ => "IN d8"
  | .cc _ => "CC addr"
  | .callDD _ => "CALL addr"
  | .sbi _ => "SBI d8"
  | .rst3 => "RST 3"
  | .rpo => "RPO"
  | .popH => "POP H"
  | .jpo _ => "JPO addr"
  | .xthl => "XTHL"
  | .cpo _ => "CPO addr"
  | .pushH => "PUSH H"
  | .ani _ => "ANI d8"
  | .rst4 => "RST 4"
  | .rpe => "RPE"
  | .pchl => "PCHL"
  | .jpe _ => "JPE addr"
  | .xchg => "XCHG"
  | .cpe _ => "CPE addr"
  | .callED _ => "CALL addr"
  | .xri _ => "XRI d8"
  | .rst5 => "RST 5"
  | .rp => "RP"
  | .popPSW => "POP PSW"
  | .jp _ => "JP addr"
  | .di => "DI"
  | .cp _ => "CP addr"
  | .pushPSW => "PUSH PSW"
  | .ori _ => "ORI d8"
  | .rst6 => "RST 6"
  | .rm => "RM"
  | .sphl => "SPHL"
  | .jm _ => "JM addr"
  | .ei => "EI"
  | .cm _ => "CM addr"
  | .callFD _ => "CALL addr"
  | .cpi _ => "CPI d8"
  | .rst7 => "RST 7"
  | .jmpCB _ => "JMP addr"

end Sys2Proof
end

