-- ==== Sys2Proof/Machine/State.lean ====
section
/-! DEFINITION. The whole state of the core as plain data (10_state.md R30), with the parameters of the run and
the host behind the ports beside it (00_scope.md R7, R16; log entries 1 and 2), the reasons a step can stop, and the
state at creation (10_state.md R63; 70_reset_and_hazards.md R450, R451). -/

namespace Sys2Proof.Machine

/-- The five condition flags, each one bit, stored apart (R40 to R45). -/
structure Flags where
  z  : Bool
  s  : Bool
  p  : Bool
  cy : Bool
  ac : Bool
  deriving DecidableEq, Repr

/-- The run state: RUNNING, or HALTED after a HLT (R58). A fault is no value of it (R422). -/
inductive RunState where
  | running | halted
  deriving DecidableEq, Repr

/-- The memory image (R80) in canonical form: addresses strictly rising, no entry equal to
`Config.unlistedByte`. -/
abbrev Memory := List Host.Cell

/-- The state. The fields `a` to `mem` are R30's list; `params` holds MEM_SIZE and CB_ALIAS (R62; log entry 1);
`portHost` is the environment that answers INs and receives OUTs, and `portLog` the port accesses so far, oldest first
(R7, R99, R466; log entry 2). -/
structure State where
  a : Byte
  b : Byte
  c : Byte
  d : Byte
  e : Byte
  h : Byte
  l : Byte
  sp : Word
  pc : Word
  flags : Flags
  inte : Bool
  run : RunState
  mem : Memory
  params : Params
  portHost : PortHost
  portLog : List PortEvent
  deriving DecidableEq, Repr

/-- Why a step stops the run. -/
inductive Fault where
  /-- `OutOfBoundsMemoryAccess` (R400, R401): raised by the fetch, and by every instruction that reads or writes
  memory, at an address at or above MEM_SIZE. The report holds the address of the instruction and its opcode
  byte, absent when the read of the opcode itself faulted (R403). Safe: the spec names this fault. -/
  | outOfBoundsMemoryAccess (pc0 : Word) (opcode : Option Byte)
  deriving DecidableEq, Repr

/-- Why the model has no next state although the spec names no fault. -/
inductive Refusal where
  /-- An instruction without a meaning, raised by an arm of `exec` only. Safe: the run stops. -/
  | notModelled (mnemonic : String)
  /-- A `load` that would pass MEM_SIZE, raised by the host operation `load` only (R452 item 3): no run starts.
  Safe: the spec says it is refused. -/
  | misconfiguredLoad
  deriving DecidableEq, Repr

/-- What one step of this machine answers. -/
abbrev Result := Host.Outcome State Fault Refusal

/-- All flags 0 (R63). -/
def Flags.reset : Flags := { z := false, s := false, p := false, cy := false, ac := false }

/-- Creation of the CPU state (R450, R451, R63): the registers and flags are zero, PC is `ENTRY`, SP is `SP_INIT`,
INTE is 0, RUN is RUNNING, memory is `MEM_INIT`; `host` is `PortIn` and `PortOut` (R7), and no port has been accessed. -/
def State.create (p : Params) (entry spInit : Word) (memInit : Memory) (host : PortHost) : State :=
  { a := 0, b := 0, c := 0, d := 0, e := 0, h := 0, l := 0
    sp := spInit, pc := entry, flags := Flags.reset, inte := false, run := .running
    mem := memInit, params := p, portHost := host, portLog := [] }

/-- The machine right after reset: creation with the default of every parameter (R7, R63, R451). -/
def State.reset : State :=
  State.create Config.defaultParams Config.defaultEntry Config.defaultSpInit [] Config.defaultPortHost

end Sys2Proof.Machine
end

