-- ==== Sys2Proof/Machine/Ops.lean ====
section
/-! DEFINITION. The named operations: memory in canonical form, the access primitives and the bounds check
(20_memory.md R80 to R86), the stack (R93, R94), the ports (R99), the three-byte fetch and its fault
(30_encoding.md R140, 60_exceptions.md R401, R403), and the PC-ownership contract that ends every instruction
(R142). There is no trap entry and no trap return on this machine (R412, R413): the one thing a fault does is the
report `raiseOutOfBounds`. -/

namespace Sys2Proof.Machine

/-! ### Memory as data -/

/-- The byte at an address; an address that is not listed reads as `Config.unlistedByte`. -/
def Memory.read : Memory → Nat → Byte
  | [], _ => Config.unlistedByte
  | (k, v) :: m, a => if k = a then v else Memory.read m a

/-- The memory without any entry for `a`. -/
def Memory.erase : Memory → Nat → Memory
  | [], _ => []
  | (k, v) :: m, a => if k = a then Memory.erase m a else (k, v) :: Memory.erase m a

/-- The memory with an entry for `a` put before the first entry of a higher address. -/
def Memory.insert : Memory → Nat → Byte → Memory
  | [], a, v => [(a, v)]
  | (k, w) :: m, a, v => if a < k then (a, v) :: (k, w) :: m else (k, w) :: Memory.insert m a v

/-- `Mem[a] <- v`, in canonical form: what an unlisted address reads as is not listed. -/
def Memory.write (m : Memory) (a : Nat) (v : Byte) : Memory :=
  if v = Config.unlistedByte then Memory.erase m a else Memory.insert (Memory.erase m a) a v

/-- The canonical form: addresses strictly rising, no entry equal to what an unlisted address reads as. -/
def Memory.wf : Memory → Bool
  | [] => true
  | (k, v) :: m => decide (v ≠ Config.unlistedByte) && m.all (fun cell => decide (k < cell.1)) && Memory.wf m

/-! ### The access primitives -/

/-- A byte access at `a` is in range when `a < MEM_SIZE` (R82). -/
abbrev State.inRange (s : State) (a : Word) : Prop := a.toNat < s.params.memSize

/-- `MemRead(a, 1)`; none when the address is out of range (R83). -/
def memRead1 (a : Word) (s : State) : Option Byte :=
  if s.inRange a then some (s.mem.read a.toNat) else none

/-- `MemWrite(a, 1, v)`; none when the address is out of range (R84). -/
def memWrite1 (a : Word) (v : Byte) (s : State) : Option State :=
  if s.inRange a then some { s with mem := s.mem.write a.toNat v } else none

/-- `MemRead(a, 2)`: the low byte at `a`, the high byte at `(a + 1) mod 65536` (R85). -/
def memRead2 (a : Word) (s : State) : Option Word :=
  (memRead1 a s).bind fun lo =>
  (memRead1 (a + 1) s).bind fun hi => some (assemble hi lo)

/-- `MemWrite(a, 2, v)`: the low byte at `a`, the high byte at `(a + 1) mod 65536` (R86). -/
def memWrite2 (a : Word) (v : Word) (s : State) : Option State :=
  (memWrite1 a (loByte v) s).bind fun s1 => memWrite1 (a + 1) (hiByte v) s1

/-- `Push16(v)`: the high byte at SP - 1, the low byte at SP - 2, then SP goes down by 2 (R93). -/
def push16 (v : Word) (s : State) : Option State :=
  (memWrite1 (s.sp - 1) (hiByte v) s).bind fun s1 =>
  (memWrite1 (s.sp - 2) (loByte v) s1).bind fun s2 => some { s2 with sp := s.sp - 2 }

/-- `Pop16()`: the low byte at SP, the high byte at SP + 1, then SP goes up by 2 (R94). -/
def pop16 (s : State) : Option (Word × State) :=
  (memRead1 s.sp s).bind fun lo =>
  (memRead1 (s.sp + 1) s).bind fun hi => some (assemble hi lo, { s with sp := s.sp + 2 })

/-! ### The ports -/

/-- The byte the host answers to an IN from port `p` after the accesses `log` (R7, R99; log entry 2). -/
def hostAnswer (host : PortHost) (log : List PortEvent) (p : Byte) : Byte :=
  match host with
  | .scripted answers => (answers.lookup p).getD Config.defaultPortByte
  | .fixed bytes => bytes[p.toNat]'p.isLt
  | .table bytes => bytes[p.toNat]'p.isLt
  | .free n => Config.hostPortByte n log p

/-- The host after it answered an IN from port `p`: a listed answer is used up (log entry 2). -/
def hostAfterInput (host : PortHost) (p : Byte) : PortHost :=
  match host with
  | .scripted answers => .scripted (answers.eraseP fun x => p == x.1)
  | .fixed bytes => .fixed bytes
  | .table bytes => .table bytes
  | .free n => .free n

/-- The host after it received `v` on port `p`: a host that keeps the table stores it (R99). -/
def hostAfterOutput (host : PortHost) (p v : Byte) : PortHost :=
  match host with
  | .scripted answers => .scripted answers
  | .fixed bytes => .fixed bytes
  | .table bytes => .table (bytes.set p.toNat v p.isLt)
  | .free n => .free n

/-- `PortRead(p)`: the byte the environment supplies for port `p` at this step, and the state in which it is logged
(R99). -/
def portRead (p : Byte) (s : State) : Byte × State :=
  let v := hostAnswer s.portHost s.portLog p
  (v, { s with portHost := hostAfterInput s.portHost p, portLog := s.portLog ++ [.input p v] })

/-- `PortWrite(p, v)`: hands `(p, v)` to the environment (R99). -/
def portWrite (p v : Byte) (s : State) : State :=
  { s with portHost := hostAfterOutput s.portHost p v, portLog := s.portLog ++ [.output p v] }

/-- The OUT events `(port, byte)` of some port accesses, in program order (R466). -/
def outputsOf : List PortEvent → List (Byte × Byte)
  | [] => []
  | .input _ _ :: log => outputsOf log
  | .output p v :: log => (p, v) :: outputsOf log

/-- The OUT events so far (R466). -/
def outEvents (s : State) : List (Byte × Byte) := outputsOf s.portLog

/-! ### The fault and the fetch -/

/-- The fault report of an out-of-range access: the address of the instruction, and its opcode byte unless the
read of that byte was the access that faulted (R401, R403). PC still holds `pc0` when an access is made (R140). -/
def raiseOutOfBounds (s : State) (opcode : Option Byte) : Fault := .outOfBoundsMemoryAccess s.pc opcode

/-- The three bytes of a fetch (R140). -/
structure Fetched where
  op : Byte
  b2 : Byte
  b3 : Byte
  deriving DecidableEq, Repr

/-- The fetch: three byte reads at PC, PC + 1 and PC + 2, whatever the instruction's length; each can fault, the
first with no opcode to report (R140, R403, R410). -/
def fetch (s : State) : Except Fault Fetched :=
  match memRead1 s.pc s with
  | none => .error (raiseOutOfBounds s none)
  | some op =>
    match memRead1 (s.pc + 1) s with
    | none => .error (raiseOutOfBounds s (some op))
    | some b2 =>
      match memRead1 (s.pc + 2) s with
      | none => .error (raiseOutOfBounds s (some op))
      | some b3 => .ok { op := op, b2 := b2, b3 := b3 }

/-! ### The end of an instruction: who writes PC -/

/-- What a handler leaves: the state, PC untouched, and the absolute PC it produced, if it produced one (R142). -/
structure Handled where
  state : State
  target : Option Word
  deriving DecidableEq, Repr

/-- A handler that leaves PC to the dispatcher (R142). -/
def leavePc (s : State) : Option Handled := some { state := s, target := none }

/-- A handler that produces an absolute new PC (R142). -/
def setPc (t : Word) (s : State) : Option Handled := some { state := s, target := some t }

/-- The end of an instruction that ran in `s` (R140, R142): a failed access raises the fault with `pc0` and the
opcode byte (R403); otherwise the handler's PC stands, or else the dispatcher advances PC by 1 plus the operand
length, modulo 65536; never both. -/
def complete (i : Instr) (handled : Option Handled) (s : State) : Result :=
  match handled with
  | none => .fault (raiseOutOfBounds s (some (opcodeOf i)))
  | some { state := s', target := some t } => .next { s' with pc := t }
  | some { state := s', target := none } => .next { s' with pc := s.pc + BitVec.ofNat 16 (1 + operandBytes i) }

end Sys2Proof.Machine
end

