-- ==== Sys2Proof/Machine/Flags.lean ====
section
/-! DEFINITION. Every flag computation: the shared helpers of 10_state.md R46 to R52, the packed flag byte (R55,
R56), the conditions (43_branch_stack.md R301), the 16-bit addition of DAD (41_arithmetic.md R251), the decimal
adjustment (R253) and the four rotates (42_logical.md R283 to R286). -/

namespace Sys2Proof.Machine

/-- 1 when the number of 1 bits of the byte is even (R43, R46). -/
def parity8 (v : Byte) : Bool :=
  decide (((v.getLsbD 7).toNat + (v.getLsbD 6).toNat + (v.getLsbD 5).toNat + (v.getLsbD 4).toNat +
    (v.getLsbD 3).toNat + (v.getLsbD 2).toNat + (v.getLsbD 1).toNat + (v.getLsbD 0).toNat) % 2 = 0)

/-- `szp(v)`: writes Z, S and P from a result byte and nothing else (R47). -/
def szp (v : Byte) (f : Flags) : Flags :=
  { f with z := decide (v = 0), s := v.getLsbD 7, p := parity8 v }

/-- A result byte with the carry and the auxiliary carry that belong to it. -/
structure AluOut where
  res : Byte
  cy : Bool
  ac : Bool
  deriving DecidableEq, Repr

/-- `add8(a, b, cin)` (R48). -/
def add8 (a b : Byte) (cin : Bool) : AluOut :=
  let sum := a.toNat + b.toNat + cin.toNat
  { res := BitVec.ofNat 8 sum
    cy := decide (sum > 0xFF)
    ac := decide (a.toNat % 16 + b.toNat % 16 + cin.toNat > 0xF) }

/-- `sub8(a, b, bin)`: CY is the borrow, AC the carry out of bit 3 of `a + (~b & 0xFF) + (1 - bin)` (R49). -/
def sub8 (a b : Byte) (bin : Bool) : AluOut :=
  let diff : Int := (a.toNat : Int) - (b.toNat : Int) - (bin.toNat : Int)
  { res := BitVec.ofInt 8 diff
    cy := decide (a.toNat < b.toNat + bin.toNat)
    ac := decide (a.toNat % 16 + (~~~b).toNat % 16 + (1 - bin.toNat) > 0xF) }

/-- All five flags from a result of `add8` or `sub8` (R231, R237). -/
def aluFlags (r : AluOut) (f : Flags) : Flags := { szp r.res f with cy := r.cy, ac := r.ac }

/-- Z, S, P and AC from a result, CY as it was: the flags of INR and DCR (R243, R245). -/
def incFlags (r : AluOut) (f : Flags) : Flags := { szp r.res f with ac := r.ac }

/-- The three logical operations (R52). -/
inductive LogicKind where
  | and | xor | or
  deriving DecidableEq, Repr

/-- The result of a logical operation (R271, R274, R277). -/
def logic8 (kind : LogicKind) (a b : Byte) : Byte :=
  match kind with
  | .and => a &&& b
  | .xor => a ^^^ b
  | .or => a ||| b

/-- AC after ANA and ANI: bit 3 of the OR of the two operands (R52; D11). -/
def andAuxCarry (a b : Byte) : Bool := (a ||| b).getLsbD 3

/-- `logic_flags(kind, a, b, result)` (R52). -/
def logicFlags (kind : LogicKind) (a b result : Byte) (f : Flags) : Flags :=
  { szp result f with
    cy := false
    ac := match kind with
      | .and => andAuxCarry a b
      | .xor => false
      | .or => false }

/-- DAA: the adjusted byte, CY and AC from A, CY and AC (R253; D12). -/
def daa8 (a : Byte) (cy ac : Bool) : AluOut :=
  let lo := a.toNat % 16
  let hi := a.toNat / 16
  let low := decide (lo > 9) || ac
  let high := decide (hi > 9) || cy || (decide (hi ≥ 9) && decide (lo > 9))
  let corr : Byte := (if low then 0x06 else 0x00) ||| (if high then 0x60 else 0x00)
  let sum := add8 a corr false
  { res := sum.res, cy := if high then true else cy, ac := sum.ac }

/-- DAD's addition: the 16-bit sum and the carry out of bit 15 (R251, R252). -/
def add16 (x y : Word) : Word × Bool :=
  let sum := x.toNat + y.toNat
  (BitVec.ofNat 16 sum, decide (sum > 0xFFFF))

/-- The four rotates of A (R283 to R286). -/
inductive Rotate where
  | rlc | rrc | ral | rar
  deriving DecidableEq, Repr

/-- A rotate: the new A and the bit shifted out; RLC and RRC copy that bit to the other end, RAL and RAR put the old
CY there (R283 to R286; C6, D13). -/
def rotate8 (k : Rotate) (a : Byte) (cy : Bool) : Byte × Bool :=
  let bit (b : Bool) : Byte := if b then 1 else 0
  match k with
  | .rlc => ((a <<< 1) ||| bit (a.getLsbD 7), a.getLsbD 7)
  | .rrc => ((a >>> 1) ||| (bit (a.getLsbD 0) <<< 7), a.getLsbD 0)
  | .ral => ((a <<< 1) ||| bit cy, a.getLsbD 7)
  | .rar => ((a >>> 1) ||| (bit cy <<< 7), a.getLsbD 0)

/-- `PackFlags()`: S Z 0 AC 0 P 1 CY, bit 7 first (R55). -/
def packFlags (f : Flags) : Byte :=
  BitVec.ofBool f.s ++ BitVec.ofBool f.z ++ (0 : BitVec 1) ++ BitVec.ofBool f.ac ++ (0 : BitVec 1) ++
    BitVec.ofBool f.p ++ (1 : BitVec 1) ++ BitVec.ofBool f.cy

/-- `UnpackFlags(b)`: bits 1, 3 and 5 are ignored (R56). -/
def unpackFlags (b : Byte) : Flags :=
  { cy := b.getLsbD 0, p := b.getLsbD 2, ac := b.getLsbD 4, z := b.getLsbD 6, s := b.getLsbD 7 }

/-- `cond(ccc)` over the flags; AC is tested by none (R301). -/
def condHolds (cond : Cond) (f : Flags) : Bool :=
  match cond with
  | .nz => !f.z
  | .z => f.z
  | .nc => !f.cy
  | .c => f.cy
  | .po => !f.p
  | .pe => f.p
  | .p => !f.s
  | .m => f.s

end Sys2Proof.Machine
end

