-- ==== Sys2Proof/Machine/Operands.lean ====
section
/-! DEFINITION. Every operand form of the instruction set: the seven registers (10_state.md R31), the three pairs
(R35, R36), M, which is the byte at HL (R34), and the immediate byte (30_encoding.md R128). -/

namespace Sys2Proof.Machine

/-- `x[r]` (R11, R31). -/
def State.reg (s : State) : Reg → Byte
  | .a => s.a
  | .b => s.b
  | .c => s.c
  | .d => s.d
  | .e => s.e
  | .h => s.h
  | .l => s.l

/-- `x[r] <- v` (R11, R31). -/
def State.setReg (s : State) (r : Reg) (v : Byte) : State :=
  match r with
  | .a => { s with a := v }
  | .b => { s with b := v }
  | .c => { s with c := v }
  | .d => { s with d := v }
  | .e => { s with e := v }
  | .h => { s with h := v }
  | .l => { s with l := v }

/-- The high register of a pair (R35). -/
def highReg : Pair → Reg
  | .bc => .b
  | .de => .d
  | .hl => .h

/-- The low register of a pair (R35). -/
def lowReg : Pair → Reg
  | .bc => .c
  | .de => .e
  | .hl => .l

/-- `pair(XY)`, `(high << 8) | low` (R35). -/
def State.pair (s : State) (p : Pair) : Word := assemble (s.reg (highReg p)) (s.reg (lowReg p))

/-- `pair(XY) <- v` (R36). -/
def State.setPair (s : State) (p : Pair) (v : Word) : State :=
  (s.setReg (highReg p) (hiByte v)).setReg (lowReg p) (loByte v)

/-- The second operand of an accumulator operation: a register, M or the immediate byte (R230, R270). -/
inductive Source where
  | reg (r : Reg)
  | mem
  | imm (v : Byte)
  deriving DecidableEq, Repr

/-- The value of an operand; none when M is out of range (R34, R230). -/
def readSource (o : Source) (s : State) : Option Byte :=
  match o with
  | .reg r => some (s.reg r)
  | .mem => memRead1 (s.pair .hl) s
  | .imm v => some v

/-- The place an instruction reads and writes a byte in: a register or M (R34, R243 to R246). -/
inductive Place where
  | reg (r : Reg)
  | mem
  deriving DecidableEq, Repr

/-- The byte in a place; none when M is out of range. -/
def readPlace (o : Place) (s : State) : Option Byte :=
  match o with
  | .reg r => some (s.reg r)
  | .mem => memRead1 (s.pair .hl) s

/-- Writes a byte to a place; none when M is out of range. -/
def writePlace (o : Place) (v : Byte) (s : State) : Option State :=
  match o with
  | .reg r => some (s.setReg r v)
  | .mem => memWrite1 (s.pair .hl) v s

end Sys2Proof.Machine
end

