-- ==== Sys2Proof/Machine/Arithmetic.lean ====
section
/-! DEFINITION. The arithmetic instructions (41_arithmetic.md, R230 to R254): none writes PC, none writes SP but INX
SP and DCX SP (R230). First the shared operations, then one meaning per constructor. -/

namespace Sys2Proof.Machine

/-- `A <- A + v`, all five flags (R231 to R233). -/
def addA (o : Source) (s : State) : Option Handled :=
  (readSource o s).bind fun v =>
    let r := add8 s.a v false
    leavePc { s with a := r.res, flags := aluFlags r s.flags }

/-- `A <- A + v + CY`, all five flags (R234 to R236). -/
def adcA (o : Source) (s : State) : Option Handled :=
  (readSource o s).bind fun v =>
    let r := add8 s.a v s.flags.cy
    leavePc { s with a := r.res, flags := aluFlags r s.flags }

/-- `A <- A - v`, all five flags (R237 to R239). -/
def subA (o : Source) (s : State) : Option Handled :=
  (readSource o s).bind fun v =>
    let r := sub8 s.a v false
    leavePc { s with a := r.res, flags := aluFlags r s.flags }

/-- `A <- A - v - CY`, all five flags (R240 to R242). -/
def sbbA (o : Source) (s : State) : Option Handled :=
  (readSource o s).bind fun v =>
    let r := sub8 s.a v s.flags.cy
    leavePc { s with a := r.res, flags := aluFlags r s.flags }

/-- The place goes up by 1; Z, S, P, AC, not CY (R50, R243, R244). -/
def incrementPlace (o : Place) (s : State) : Option Handled :=
  (readPlace o s).bind fun v =>
    let r := add8 v 1 false
    (writePlace o r.res s).bind fun s1 => leavePc { s1 with flags := incFlags r s.flags }

/-- The place goes down by 1; Z, S, P, AC, not CY (R51, R245, R246). -/
def decrementPlace (o : Place) (s : State) : Option Handled :=
  (readPlace o s).bind fun v =>
    let r := sub8 v 1 false
    (writePlace o r.res s).bind fun s1 => leavePc { s1 with flags := incFlags r s.flags }

/-- `pair(rp) <- (pair(rp) + 1) mod 65536`, no flag (R247). -/
def incrementPair (p : Pair) (s : State) : Option Handled := leavePc (s.setPair p (s.pair p + 1))

/-- `SP <- (SP + 1) mod 65536`, no flag (R248). -/
def incrementSp (s : State) : Option Handled := leavePc { s with sp := s.sp + 1 }

/-- `pair(rp) <- (pair(rp) - 1) mod 65536`, no flag (R249). -/
def decrementPair (p : Pair) (s : State) : Option Handled := leavePc (s.setPair p (s.pair p - 1))

/-- `SP <- (SP - 1) mod 65536`, no flag (R250). -/
def decrementSp (s : State) : Option Handled := leavePc { s with sp := s.sp - 1 }

/-- `pair(HL) <- pair(HL) + v`, CY only, from the carry out of bit 15 (R251, R252). -/
def addToHl (v : Word) (s : State) : Option Handled :=
  let r := add16 (s.pair .hl) v
  leavePc { s.setPair .hl r.1 with flags := { s.flags with cy := r.2 } }

/-- DAA, all five flags (R253). -/
def decimalAdjust (s : State) : Option Handled :=
  let r := daa8 s.a s.flags.cy s.flags.ac
  leavePc { s with a := r.res, flags := aluFlags r s.flags }

/-- 0x80 ADD B (R231). -/
def execAddB (s : State) : Result := complete .addB (addA (.reg .b) s) s

/-- 0x81 ADD C (R231). -/
def execAddC (s : State) : Result := complete .addC (addA (.reg .c) s) s

/-- 0x82 ADD D (R231). -/
def execAddD (s : State) : Result := complete .addD (addA (.reg .d) s) s

/-- 0x83 ADD E (R231). -/
def execAddE (s : State) : Result := complete .addE (addA (.reg .e) s) s

/-- 0x84 ADD H (R231). -/
def execAddH (s : State) : Result := complete .addH (addA (.reg .h) s) s

/-- 0x85 ADD L (R231). -/
def execAddL (s : State) : Result := complete .addL (addA (.reg .l) s) s

/-- 0x87 ADD A (R231). -/
def execAddA (s : State) : Result := complete .addA (addA (.reg .a) s) s

/-- 0x86 ADD M (R232). -/
def execAddM (s : State) : Result := complete .addM (addA .mem s) s

/-- 0xC6 ADI d8 (R233). -/
def execAdi (imm : Byte) (s : State) : Result := complete (.adi imm) (addA (.imm imm) s) s

/-- 0x88 ADC B (R234). -/
def execAdcB (s : State) : Result := complete .adcB (adcA (.reg .b) s) s

/-- 0x89 ADC C (R234). -/
def execAdcC (s : State) : Result := complete .adcC (adcA (.reg .c) s) s

/-- 0x8A ADC D (R234). -/
def execAdcD (s : State) : Result := complete .adcD (adcA (.reg .d) s) s

/-- 0x8B ADC E (R234). -/
def execAdcE (s : State) : Result := complete .adcE (adcA (.reg .e) s) s

/-- 0x8C ADC H (R234). -/
def execAdcH (s : State) : Result := complete .adcH (adcA (.reg .h) s) s

/-- 0x8D ADC L (R234). -/
def execAdcL (s : State) : Result := complete .adcL (adcA (.reg .l) s) s

/-- 0x8F ADC A (R234). -/
def execAdcA (s : State) : Result := complete .adcA (adcA (.reg .a) s) s

/-- 0x8E ADC M (R235). -/
def execAdcM (s : State) : Result := complete .adcM (adcA .mem s) s

/-- 0xCE ACI d8 (R236). -/
def execAci (imm : Byte) (s : State) : Result := complete (.aci imm) (adcA (.imm imm) s) s

/-- 0x90 SUB B (R237). -/
def execSubB (s : State) : Result := complete .subB (subA (.reg .b) s) s

/-- 0x91 SUB C (R237). -/
def execSubC (s : State) : Result := complete .subC (subA (.reg .c) s) s

/-- 0x92 SUB D (R237). -/
def execSubD (s : State) : Result := complete .subD (subA (.reg .d) s) s

/-- 0x93 SUB E (R237). -/
def execSubE (s : State) : Result := complete .subE (subA (.reg .e) s) s

/-- 0x94 SUB H (R237). -/
def execSubH (s : State) : Result := complete .subH (subA (.reg .h) s) s

/-- 0x95 SUB L (R237). -/
def execSubL (s : State) : Result := complete .subL (subA (.reg .l) s) s

/-- 0x97 SUB A (R237). -/
def execSubA (s : State) : Result := complete .subA (subA (.reg .a) s) s

/-- 0x96 SUB M (R238). -/
def execSubM (s : State) : Result := complete .subM (subA .mem s) s

/-- 0xD6 SUI d8 (R239). -/
def execSui (imm : Byte) (s : State) : Result := complete (.sui imm) (subA (.imm imm) s) s

/-- 0x98 SBB B (R240). -/
def execSbbB (s : State) : Result := complete .sbbB (sbbA (.reg .b) s) s

/-- 0x99 SBB C (R240). -/
def execSbbC (s : State) : Result := complete .sbbC (sbbA (.reg .c) s) s

/-- 0x9A SBB D (R240). -/
def execSbbD (s : State) : Result := complete .sbbD (sbbA (.reg .d) s) s

/-- 0x9B SBB E (R240). -/
def execSbbE (s : State) : Result := complete .sbbE (sbbA (.reg .e) s) s

/-- 0x9C SBB H (R240). -/
def execSbbH (s : State) : Result := complete .sbbH (sbbA (.reg .h) s) s

/-- 0x9D SBB L (R240). -/
def execSbbL (s : State) : Result := complete .sbbL (sbbA (.reg .l) s) s

/-- 0x9F SBB A (R240). -/
def execSbbA (s : State) : Result := complete .sbbA (sbbA (.reg .a) s) s

/-- 0x9E SBB M (R241). -/
def execSbbM (s : State) : Result := complete .sbbM (sbbA .mem s) s

/-- 0xDE SBI d8 (R242). -/
def execSbi (imm : Byte) (s : State) : Result := complete (.sbi imm) (sbbA (.imm imm) s) s

/-- 0x04 INR B (R243). -/
def execInrB (s : State) : Result := complete .inrB (incrementPlace (.reg .b) s) s

/-- 0x0C INR C (R243). -/
def execInrC (s : State) : Result := complete .inrC (incrementPlace (.reg .c) s) s

/-- 0x14 INR D (R243). -/
def execInrD (s : State) : Result := complete .inrD (incrementPlace (.reg .d) s) s

/-- 0x1C INR E (R243). -/
def execInrE (s : State) : Result := complete .inrE (incrementPlace (.reg .e) s) s

/-- 0x24 INR H (R243). -/
def execInrH (s : State) : Result := complete .inrH (incrementPlace (.reg .h) s) s

/-- 0x2C INR L (R243). -/
def execInrL (s : State) : Result := complete .inrL (incrementPlace (.reg .l) s) s

/-- 0x3C INR A (R243). -/
def execInrA (s : State) : Result := complete .inrA (incrementPlace (.reg .a) s) s

/-- 0x34 INR M (R244). -/
def execInrM (s : State) : Result := complete .inrM (incrementPlace .mem s) s

/-- 0x05 DCR B (R245). -/
def execDcrB (s : State) : Result := complete .dcrB (decrementPlace (.reg .b) s) s

/-- 0x0D DCR C (R245). -/
def execDcrC (s : State) : Result := complete .dcrC (decrementPlace (.reg .c) s) s

/-- 0x15 DCR D (R245). -/
def execDcrD (s : State) : Result := complete .dcrD (decrementPlace (.reg .d) s) s

/-- 0x1D DCR E (R245). -/
def execDcrE (s : State) : Result := complete .dcrE (decrementPlace (.reg .e) s) s

/-- 0x25 DCR H (R245). -/
def execDcrH (s : State) : Result := complete .dcrH (decrementPlace (.reg .h) s) s

/-- 0x2D DCR L (R245). -/
def execDcrL (s : State) : Result := complete .dcrL (decrementPlace (.reg .l) s) s

/-- 0x3D DCR A (R245). -/
def execDcrA (s : State) : Result := complete .dcrA (decrementPlace (.reg .a) s) s

/-- 0x35 DCR M (R246). -/
def execDcrM (s : State) : Result := complete .dcrM (decrementPlace .mem s) s

/-- 0x03 INX B (R247). -/
def execInxB (s : State) : Result := complete .inxB (incrementPair .bc s) s

/-- 0x13 INX D (R247). -/
def execInxD (s : State) : Result := complete .inxD (incrementPair .de s) s

/-- 0x23 INX H (R247). -/
def execInxH (s : State) : Result := complete .inxH (incrementPair .hl s) s

/-- 0x33 INX SP (R248). -/
def execInxSP (s : State) : Result := complete .inxSP (incrementSp s) s

/-- 0x0B DCX B (R249). -/
def execDcxB (s : State) : Result := complete .dcxB (decrementPair .bc s) s

/-- 0x1B DCX D (R249). -/
def execDcxD (s : State) : Result := complete .dcxD (decrementPair .de s) s

/-- 0x2B DCX H (R249). -/
def execDcxH (s : State) : Result := complete .dcxH (decrementPair .hl s) s

/-- 0x3B DCX SP (R250). -/
def execDcxSP (s : State) : Result := complete .dcxSP (decrementSp s) s

/-- 0x09 DAD B (R251). -/
def execDadB (s : State) : Result := complete .dadB (addToHl (s.pair .bc) s) s

/-- 0x19 DAD D (R251). -/
def execDadD (s : State) : Result := complete .dadD (addToHl (s.pair .de) s) s

/-- 0x29 DAD H (R251). -/
def execDadH (s : State) : Result := complete .dadH (addToHl (s.pair .hl) s) s

/-- 0x39 DAD SP (R252). -/
def execDadSP (s : State) : Result := complete .dadSP (addToHl s.sp s) s

/-- 0x27 DAA (R253). -/
def execDaa (s : State) : Result := complete .daa (decimalAdjust s) s

end Sys2Proof.Machine
end

