-- ==== Sys2Proof/Machine/DataTransfer.lean ====
section
/-! DEFINITION. The data-transfer instructions (40_data_transfer.md, R200 to R216): none writes a flag, none writes
PC, and only LXI SP writes SP (R200). First the shared operations, then one meaning per constructor. -/

namespace Sys2Proof.Machine

/-- `x[dst] <- x[src]` (R201). -/
def moveReg (dst src : Reg) (s : State) : Option Handled := leavePc (s.setReg dst (s.reg src))

/-- `x[dst] <- v` (R204). -/
def moveImm (dst : Reg) (v : Byte) (s : State) : Option Handled := leavePc (s.setReg dst v)

/-- `x[dst] <- MemRead(a, 1)` (R202, R208, R210, R211). -/
def loadByte (dst : Reg) (a : Word) (s : State) : Option Handled :=
  (memRead1 a s).bind fun v => leavePc (s.setReg dst v)

/-- `MemWrite(a, 1, v)` (R203, R205, R209, R212, R213). -/
def storeByte (a : Word) (v : Byte) (s : State) : Option Handled := (memWrite1 a v s).bind leavePc

/-- `pair(rp) <- d16` (R206). -/
def loadPair (p : Pair) (w : Word) (s : State) : Option Handled := leavePc (s.setPair p w)

/-- `SP <- w` (R207, R339). -/
def loadSp (w : Word) (s : State) : Option Handled := leavePc { s with sp := w }

/-- `pair(HL) <- MemRead(a, 2)` (R214). -/
def loadHl (a : Word) (s : State) : Option Handled := (memRead2 a s).bind fun w => leavePc (s.setPair .hl w)

/-- `MemWrite(a, 2, pair(HL))` (R215). -/
def storeHl (a : Word) (s : State) : Option Handled := (memWrite2 a (s.pair .hl) s).bind leavePc

/-- `pair(HL) <-> pair(DE)` (R216). -/
def exchangeHlDe (s : State) : Option Handled :=
  leavePc ((s.setPair .hl (s.pair .de)).setPair .de (s.pair .hl))

/-- 0x40 MOV B,B (R201). -/
def execMovBB (s : State) : Result := complete .movBB (moveReg .b .b s) s

/-- 0x41 MOV B,C (R201). -/
def execMovBC (s : State) : Result := complete .movBC (moveReg .b .c s) s

/-- 0x42 MOV B,D (R201). -/
def execMovBD (s : State) : Result := complete .movBD (moveReg .b .d s) s

/-- 0x43 MOV B,E (R201). -/
def execMovBE (s : State) : Result := complete .movBE (moveReg .b .e s) s

/-- 0x44 MOV B,H (R201). -/
def execMovBH (s : State) : Result := complete .movBH (moveReg .b .h s) s

/-- 0x45 MOV B,L (R201). -/
def execMovBL (s : State) : Result := complete .movBL (moveReg .b .l s) s

/-- 0x47 MOV B,A (R201). -/
def execMovBA (s : State) : Result := complete .movBA (moveReg .b .a s) s

/-- 0x48 MOV C,B (R201). -/
def execMovCB (s : State) : Result := complete .movCB (moveReg .c .b s) s

/-- 0x49 MOV C,C (R201). -/
def execMovCC (s : State) : Result := complete .movCC (moveReg .c .c s) s

/-- 0x4A MOV C,D (R201). -/
def execMovCD (s : State) : Result := complete .movCD (moveReg .c .d s) s

/-- 0x4B MOV C,E (R201). -/
def execMovCE (s : State) : Result := complete .movCE (moveReg .c .e s) s

/-- 0x4C MOV C,H (R201). -/
def execMovCH (s : State) : Result := complete .movCH (moveReg .c .h s) s

/-- 0x4D MOV C,L (R201). -/
def execMovCL (s : State) : Result := complete .movCL (moveReg .c .l s) s

/-- 0x4F MOV C,A (R201). -/
def execMovCA (s : State) : Result := complete .movCA (moveReg .c .a s) s

/-- 0x50 MOV D,B (R201). -/
def execMovDB (s : State) : Result := complete .movDB (moveReg .d .b s) s

/-- 0x51 MOV D,C (R201). -/
def execMovDC (s : State) : Result := complete .movDC (moveReg .d .c s) s

/-- 0x52 MOV D,D (R201). -/
def execMovDD (s : State) : Result := complete .movDD (moveReg .d .d s) s

/-- 0x53 MOV D,E (R201). -/
def execMovDE (s : State) : Result := complete .movDE (moveReg .d .e s) s

/-- 0x54 MOV D,H (R201). -/
def execMovDH (s : State) : Result := complete .movDH (moveReg .d .h s) s

/-- 0x55 MOV D,L (R201). -/
def execMovDL (s : State) : Result := complete .movDL (moveReg .d .l s) s

/-- 0x57 MOV D,A (R201). -/
def execMovDA (s : State) : Result := complete .movDA (moveReg .d .a s) s

/-- 0x58 MOV E,B (R201). -/
def execMovEB (s : State) : Result := complete .movEB (moveReg .e .b s) s

/-- 0x59 MOV E,C (R201). -/
def execMovEC (s : State) : Result := complete .movEC (moveReg .e .c s) s

/-- 0x5A MOV E,D (R201). -/
def execMovED (s : State) : Result := complete .movED (moveReg .e .d s) s

/-- 0x5B MOV E,E (R201). -/
def execMovEE (s : State) : Result := complete .movEE (moveReg .e .e s) s

/-- 0x5C MOV E,H (R201). -/
def execMovEH (s : State) : Result := complete .movEH (moveReg .e .h s) s

/-- 0x5D MOV E,L (R201). -/
def execMovEL (s : State) : Result := complete .movEL (moveReg .e .l s) s

/-- 0x5F MOV E,A (R201). -/
def execMovEA (s : State) : Result := complete .movEA (moveReg .e .a s) s

/-- 0x60 MOV H,B (R201). -/
def execMovHB (s : State) : Result := complete .movHB (moveReg .h .b s) s

/-- 0x61 MOV H,C (R201). -/
def execMovHC (s : State) : Result := complete .movHC (moveReg .h .c s) s

/-- 0x62 MOV H,D (R201). -/
def execMovHD (s : State) : Result := complete .movHD (moveReg .h .d s) s

/-- 0x63 MOV H,E (R201). -/
def execMovHE (s : State) : Result := complete .movHE (moveReg .h .e s) s

/-- 0x64 MOV H,H (R201). -/
def execMovHH (s : State) : Result := complete .movHH (moveReg .h .h s) s

/-- 0x65 MOV H,L (R201). -/
def execMovHL (s : State) : Result := complete .movHL (moveReg .h .l s) s

/-- 0x67 MOV H,A (R201). -/
def execMovHA (s : State) : Result := complete .movHA (moveReg .h .a s) s

/-- 0x68 MOV L,B (R201). -/
def execMovLB (s : State) : Result := complete .movLB (moveReg .l .b s) s

/-- 0x69 MOV L,C (R201). -/
def execMovLC (s : State) : Result := complete .movLC (moveReg .l .c s) s

/-- 0x6A MOV L,D (R201). -/
def execMovLD (s : State) : Result := complete .movLD (moveReg .l .d s) s

/-- 0x6B MOV L,E (R201). -/
def execMovLE (s : State) : Result := complete .movLE (moveReg .l .e s) s

/-- 0x6C MOV L,H (R201). -/
def execMovLH (s : State) : Result := complete .movLH (moveReg .l .h s) s

/-- 0x6D MOV L,L (R201). -/
def execMovLL (s : State) : Result := complete .movLL (moveReg .l .l s) s

/-- 0x6F MOV L,A (R201). -/
def execMovLA (s : State) : Result := complete .movLA (moveReg .l .a s) s

/-- 0x78 MOV A,B (R201). -/
def execMovAB (s : State) : Result := complete .movAB (moveReg .a .b s) s

/-- 0x79 MOV A,C (R201). -/
def execMovAC (s : State) : Result := complete .movAC (moveReg .a .c s) s

/-- 0x7A MOV A,D (R201). -/
def execMovAD (s : State) : Result := complete .movAD (moveReg .a .d s) s

/-- 0x7B MOV A,E (R201). -/
def execMovAE (s : State) : Result := complete .movAE (moveReg .a .e s) s

/-- 0x7C MOV A,H (R201). -/
def execMovAH (s : State) : Result := complete .movAH (moveReg .a .h s) s

/-- 0x7D MOV A,L (R201). -/
def execMovAL (s : State) : Result := complete .movAL (moveReg .a .l s) s

/-- 0x7F MOV A,A (R201). -/
def execMovAA (s : State) : Result := complete .movAA (moveReg .a .a s) s

/-- 0x46 MOV B,M (R202). -/
def execMovBM (s : State) : Result := complete .movBM (loadByte .b (s.pair .hl) s) s

/-- 0x4E MOV C,M (R202). -/
def execMovCM (s : State) : Result := complete .movCM (loadByte .c (s.pair .hl) s) s

/-- 0x56 MOV D,M (R202). -/
def execMovDM (s : State) : Result := complete .movDM (loadByte .d (s.pair .hl) s) s

/-- 0x5E MOV E,M (R202). -/
def execMovEM (s : State) : Result := complete .movEM (loadByte .e (s.pair .hl) s) s

/-- 0x66 MOV H,M (R202). -/
def execMovHM (s : State) : Result := complete .movHM (loadByte .h (s.pair .hl) s) s

/-- 0x6E MOV L,M (R202). -/
def execMovLM (s : State) : Result := complete .movLM (loadByte .l (s.pair .hl) s) s

/-- 0x7E MOV A,M (R202). -/
def execMovAM (s : State) : Result := complete .movAM (loadByte .a (s.pair .hl) s) s

/-- 0x70 MOV M,B (R203). -/
def execMovMB (s : State) : Result := complete .movMB (storeByte (s.pair .hl) (s.reg .b) s) s

/-- 0x71 MOV M,C (R203). -/
def execMovMC (s : State) : Result := complete .movMC (storeByte (s.pair .hl) (s.reg .c) s) s

/-- 0x72 MOV M,D (R203). -/
def execMovMD (s : State) : Result := complete .movMD (storeByte (s.pair .hl) (s.reg .d) s) s

/-- 0x73 MOV M,E (R203). -/
def execMovME (s : State) : Result := complete .movME (storeByte (s.pair .hl) (s.reg .e) s) s

/-- 0x74 MOV M,H (R203). -/
def execMovMH (s : State) : Result := complete .movMH (storeByte (s.pair .hl) (s.reg .h) s) s

/-- 0x75 MOV M,L (R203). -/
def execMovML (s : State) : Result := complete .movML (storeByte (s.pair .hl) (s.reg .l) s) s

/-- 0x77 MOV M,A (R203). -/
def execMovMA (s : State) : Result := complete .movMA (storeByte (s.pair .hl) (s.reg .a) s) s

/-- 0x06 MVI B,d8 (R204). -/
def execMviB (imm : Byte) (s : State) : Result := complete (.mviB imm) (moveImm .b imm s) s

/-- 0x0E MVI C,d8 (R204). -/
def execMviC (imm : Byte) (s : State) : Result := complete (.mviC imm) (moveImm .c imm s) s

/-- 0x16 MVI D,d8 (R204). -/
def execMviD (imm : Byte) (s : State) : Result := complete (.mviD imm) (moveImm .d imm s) s

/-- 0x1E MVI E,d8 (R204). -/
def execMviE (imm : Byte) (s : State) : Result := complete (.mviE imm) (moveImm .e imm s) s

/-- 0x26 MVI H,d8 (R204). -/
def execMviH (imm : Byte) (s : State) : Result := complete (.mviH imm) (moveImm .h imm s) s

/-- 0x2E MVI L,d8 (R204). -/
def execMviL (imm : Byte) (s : State) : Result := complete (.mviL imm) (moveImm .l imm s) s

/-- 0x3E MVI A,d8 (R204). -/
def execMviA (imm : Byte) (s : State) : Result := complete (.mviA imm) (moveImm .a imm s) s

/-- 0x36 MVI M,d8 (R205). -/
def execMviM (imm : Byte) (s : State) : Result := complete (.mviM imm) (storeByte (s.pair .hl) imm s) s

/-- 0x01 LXI B,d16 (R206). -/
def execLxiB (imm : Word) (s : State) : Result := complete (.lxiB imm) (loadPair .bc imm s) s

/-- 0x11 LXI D,d16 (R206). -/
def execLxiD (imm : Word) (s : State) : Result := complete (.lxiD imm) (loadPair .de imm s) s

/-- 0x21 LXI H,d16 (R206). -/
def execLxiH (imm : Word) (s : State) : Result := complete (.lxiH imm) (loadPair .hl imm s) s

/-- 0x31 LXI SP,d16 (R207). -/
def execLxiSP (imm : Word) (s : State) : Result := complete (.lxiSP imm) (loadSp imm s) s

/-- 0x3A LDA addr (R208). -/
def execLda (addr : Word) (s : State) : Result := complete (.lda addr) (loadByte .a addr s) s

/-- 0x32 STA addr (R209). -/
def execSta (addr : Word) (s : State) : Result := complete (.sta addr) (storeByte addr s.a s) s

/-- 0x0A LDAX B (R210). -/
def execLdaxB (s : State) : Result := complete .ldaxB (loadByte .a (s.pair .bc) s) s

/-- 0x1A LDAX D (R211). -/
def execLdaxD (s : State) : Result := complete .ldaxD (loadByte .a (s.pair .de) s) s

/-- 0x02 STAX B (R212). -/
def execStaxB (s : State) : Result := complete .staxB (storeByte (s.pair .bc) s.a s) s

/-- 0x12 STAX D (R213). -/
def execStaxD (s : State) : Result := complete .staxD (storeByte (s.pair .de) s.a s) s

/-- 0x2A LHLD addr (R214). -/
def execLhld (addr : Word) (s : State) : Result := complete (.lhld addr) (loadHl addr s) s

/-- 0x22 SHLD addr (R215). -/
def execShld (addr : Word) (s : State) : Result := complete (.shld addr) (storeHl addr s) s

/-- 0xEB XCHG (R216). -/
def execXchg (s : State) : Result := complete .xchg (exchangeHlDe s) s

end Sys2Proof.Machine
end

