-- ==== Sys2Proof/Machine/BranchStack.lean ====
section
/-! DEFINITION. The branch, call, return, restart and stack instructions (43_branch_stack.md, R300 to R344): the
handlers of JMP, Jccc, CALL, Cccc, RET, Rccc, RST and PCHL write PC, the others leave it to the dispatcher; no flag is
written but by POP PSW (R300). First the shared operations, then one meaning per constructor. -/

namespace Sys2Proof.Machine

/-- `pc <- t` (R302, R333). -/
def jump (t : Word) (s : State) : Option Handled := setPc t s

/-- `pc <- t` if the condition holds, else the dispatcher's advance (R303; C8). -/
def jumpIf (cond : Cond) (t : Word) (s : State) : Option Handled :=
  if condHolds cond s.flags then jump t s else leavePc s

/-- Pushes the address of the instruction after the three bytes of a call, then `pc <- t` (R312). -/
def callTo (t : Word) (s : State) : Option Handled := (push16 (s.pc + 3) s).bind (setPc t)

/-- A call if the condition holds; else no stack access and the dispatcher's advance (R313, R300 item 5). -/
def callIf (cond : Cond) (t : Word) (s : State) : Option Handled :=
  if condHolds cond s.flags then callTo t s else leavePc s

/-- `pc <- Pop16()` (R322). -/
def returnFrom (s : State) : Option Handled := (pop16 s).bind fun ws => setPc ws.1 ws.2

/-- A return if the condition holds; else no stack access and the dispatcher's advance (R323). -/
def returnIf (cond : Cond) (s : State) : Option Handled :=
  if condHolds cond s.flags then returnFrom s else leavePc s

/-- Pushes the address of the byte after a one-byte RST, then `pc <- t` with `t = n * 8` (R332; D35). -/
def restart (t : Word) (s : State) : Option Handled := (push16 (s.pc + 1) s).bind (setPc t)

/-- `Push16(v)` (R334, R335). -/
def pushWord (v : Word) (s : State) : Option Handled := (push16 v s).bind leavePc

/-- `pair(rp) <- Pop16()` (R336). -/
def popPair (p : Pair) (s : State) : Option Handled := (pop16 s).bind fun ws => leavePc (ws.2.setPair p ws.1)

/-- The low byte popped to the flags, the high byte to A (R337; C3, D17). -/
def popPsw (s : State) : Option Handled :=
  (pop16 s).bind fun ws => leavePc { ws.2 with a := hiByte ws.1, flags := unpackFlags (loByte ws.1) }

/-- L with the byte at SP, H with the byte at SP + 1, both reads before both writes (R338; D25). -/
def exchangeHlTop (s : State) : Option Handled :=
  (memRead1 s.sp s).bind fun lo =>
  (memRead1 (s.sp + 1) s).bind fun hi =>
  (memWrite1 s.sp s.l s).bind fun s1 =>
  (memWrite1 (s.sp + 1) s.h s1).bind fun s2 => leavePc { s2 with l := lo, h := hi }

/-- 0xC3 JMP addr (R302). -/
def execJmp (addr : Word) (s : State) : Result := complete (.jmp addr) (jump addr s) s

/-- 0xC2 JNZ addr (R304). -/
def execJnz (addr : Word) (s : State) : Result := complete (.jnz addr) (jumpIf .nz addr s) s

/-- 0xCA JZ addr (R305). -/
def execJz (addr : Word) (s : State) : Result := complete (.jz addr) (jumpIf .z addr s) s

/-- 0xD2 JNC addr (R306). -/
def execJnc (addr : Word) (s : State) : Result := complete (.jnc addr) (jumpIf .nc addr s) s

/-- 0xDA JC addr (R307). -/
def execJc (addr : Word) (s : State) : Result := complete (.jc addr) (jumpIf .c addr s) s

/-- 0xE2 JPO addr (R308). -/
def execJpo (addr : Word) (s : State) : Result := complete (.jpo addr) (jumpIf .po addr s) s

/-- 0xEA JPE addr (R309). -/
def execJpe (addr : Word) (s : State) : Result := complete (.jpe addr) (jumpIf .pe addr s) s

/-- 0xF2 JP addr (R310). -/
def execJp (addr : Word) (s : State) : Result := complete (.jp addr) (jumpIf .p addr s) s

/-- 0xFA JM addr (R311). -/
def execJm (addr : Word) (s : State) : Result := complete (.jm addr) (jumpIf .m addr s) s

/-- 0xCD CALL addr (R312). -/
def execCall (addr : Word) (s : State) : Result := complete (.call addr) (callTo addr s) s

/-- 0xC4 CNZ addr (R314). -/
def execCnz (addr : Word) (s : State) : Result := complete (.cnz addr) (callIf .nz addr s) s

/-- 0xCC CZ addr (R315). -/
def execCz (addr : Word) (s : State) : Result := complete (.cz addr) (callIf .z addr s) s

/-- 0xD4 CNC addr (R316). -/
def execCnc (addr : Word) (s : State) : Result := complete (.cnc addr) (callIf .nc addr s) s

/-- 0xDC CC addr (R317). -/
def execCc (addr : Word) (s : State) : Result := complete (.cc addr) (callIf .c addr s) s

/-- 0xE4 CPO addr (R318). -/
def execCpo (addr : Word) (s : State) : Result := complete (.cpo addr) (callIf .po addr s) s

/-- 0xEC CPE addr (R319). -/
def execCpe (addr : Word) (s : State) : Result := complete (.cpe addr) (callIf .pe addr s) s

/-- 0xF4 CP addr (R320). -/
def execCp (addr : Word) (s : State) : Result := complete (.cp addr) (callIf .p addr s) s

/-- 0xFC CM addr (R321). -/
def execCm (addr : Word) (s : State) : Result := complete (.cm addr) (callIf .m addr s) s

/-- 0xC9 RET (R322). -/
def execRet (s : State) : Result := complete .ret (returnFrom s) s

/-- 0xC0 RNZ (R324). -/
def execRnz (s : State) : Result := complete .rnz (returnIf .nz s) s

/-- 0xC8 RZ (R325). -/
def execRz (s : State) : Result := complete .rz (returnIf .z s) s

/-- 0xD0 RNC (R326). -/
def execRnc (s : State) : Result := complete .rnc (returnIf .nc s) s

/-- 0xD8 RC (R327). -/
def execRc (s : State) : Result := complete .rc (returnIf .c s) s

/-- 0xE0 RPO (R328). -/
def execRpo (s : State) : Result := complete .rpo (returnIf .po s) s

/-- 0xE8 RPE (R329). -/
def execRpe (s : State) : Result := complete .rpe (returnIf .pe s) s

/-- 0xF0 RP (R330). -/
def execRp (s : State) : Result := complete .rp (returnIf .p s) s

/-- 0xF8 RM (R331). -/
def execRm (s : State) : Result := complete .rm (returnIf .m s) s

/-- 0xC7 RST 0 (R332). -/
def execRst0 (s : State) : Result := complete .rst0 (restart 0x0000 s) s

/-- 0xCF RST 1 (R332). -/
def execRst1 (s : State) : Result := complete .rst1 (restart 0x0008 s) s

/-- 0xD7 RST 2 (R332). -/
def execRst2 (s : State) : Result := complete .rst2 (restart 0x0010 s) s

/-- 0xDF RST 3 (R332). -/
def execRst3 (s : State) : Result := complete .rst3 (restart 0x0018 s) s

/-- 0xE7 RST 4 (R332). -/
def execRst4 (s : State) : Result := complete .rst4 (restart 0x0020 s) s

/-- 0xEF RST 5 (R332). -/
def execRst5 (s : State) : Result := complete .rst5 (restart 0x0028 s) s

/-- 0xF7 RST 6 (R332). -/
def execRst6 (s : State) : Result := complete .rst6 (restart 0x0030 s) s

/-- 0xFF RST 7 (R332). -/
def execRst7 (s : State) : Result := complete .rst7 (restart 0x0038 s) s

/-- 0xE9 PCHL (R333). -/
def execPchl (s : State) : Result := complete .pchl (jump (s.pair .hl) s) s

/-- 0xC5 PUSH B (R334). -/
def execPushB (s : State) : Result := complete .pushB (pushWord (s.pair .bc) s) s

/-- 0xD5 PUSH D (R334). -/
def execPushD (s : State) : Result := complete .pushD (pushWord (s.pair .de) s) s

/-- 0xE5 PUSH H (R334). -/
def execPushH (s : State) : Result := complete .pushH (pushWord (s.pair .hl) s) s

/-- 0xF5 PUSH PSW (R335). -/
def execPushPSW (s : State) : Result := complete .pushPSW (pushWord (assemble s.a (packFlags s.flags)) s) s

/-- 0xC1 POP B (R336). -/
def execPopB (s : State) : Result := complete .popB (popPair .bc s) s

/-- 0xD1 POP D (R336). -/
def execPopD (s : State) : Result := complete .popD (popPair .de s) s

/-- 0xE1 POP H (R336). -/
def execPopH (s : State) : Result := complete .popH (popPair .hl s) s

/-- 0xF1 POP PSW (R337). -/
def execPopPSW (s : State) : Result := complete .popPSW (popPsw s) s

/-- 0xE3 XTHL (R338). -/
def execXthl (s : State) : Result := complete .xthl (exchangeHlTop s) s

/-- 0xF9 SPHL (R339). -/
def execSphl (s : State) : Result := complete .sphl (loadSp (s.pair .hl) s) s

/-- 0xCB JMP addr, as CB_ALIAS = JMP has it (R340). -/
def execJmpCB (addr : Word) (s : State) : Result := complete (.jmpCB addr) (jump addr s) s

/-- 0xCB RET, as CB_ALIAS = RET has it (R340). -/
def execRetCB (s : State) : Result := complete .retCB (returnFrom s) s

/-- 0xD9 RET (R341). -/
def execRetD9 (s : State) : Result := complete .retD9 (returnFrom s) s

/-- 0xDD CALL addr (R342). -/
def execCallDD (addr : Word) (s : State) : Result := complete (.callDD addr) (callTo addr s) s

/-- 0xED CALL addr (R342). -/
def execCallED (addr : Word) (s : State) : Result := complete (.callED addr) (callTo addr s) s

/-- 0xFD CALL addr (R342). -/
def execCallFD (addr : Word) (s : State) : Result := complete (.callFD addr) (callTo addr s) s

end Sys2Proof.Machine
end

