-- ==== Sys2Proof/Machine/Control.lean ====
section
/-! DEFINITION. The control and input/output instructions (44_control_io.md, R360 to R368): none accesses memory,
none writes a flag, SP or PC (R360). First the shared operations, then one meaning per constructor. -/

namespace Sys2Proof.Machine

/-- `RUN <- HALTED` (R361). -/
def halt (s : State) : Option Handled := leavePc { s with run := .halted }

/-- `INTE <- v`, at once (R364, R365; D19). -/
def setInte (v : Bool) (s : State) : Option Handled := leavePc { s with inte := v }

/-- `A <- PortRead(p)` (R366). -/
def inputA (p : Byte) (s : State) : Option Handled :=
  let r := portRead p s
  leavePc { r.2 with a := r.1 }

/-- `PortWrite(p, A)` (R367). -/
def outputA (p : Byte) (s : State) : Option Handled := leavePc (portWrite p s.a s)

/-- 0x76 HLT (R361). -/
def execHlt (s : State) : Result := complete .hlt (halt s) s

/-- 0x00 NOP (R362). -/
def execNop (s : State) : Result := complete .nop (leavePc s) s

/-- 0x08 NOP (R363). -/
def execNop08 (s : State) : Result := complete .nop08 (leavePc s) s

/-- 0x10 NOP (R363). -/
def execNop10 (s : State) : Result := complete .nop10 (leavePc s) s

/-- 0x18 NOP (R363). -/
def execNop18 (s : State) : Result := complete .nop18 (leavePc s) s

/-- 0x20 NOP (R363). -/
def execNop20 (s : State) : Result := complete .nop20 (leavePc s) s

/-- 0x28 NOP (R363). -/
def execNop28 (s : State) : Result := complete .nop28 (leavePc s) s

/-- 0x30 NOP (R363). -/
def execNop30 (s : State) : Result := complete .nop30 (leavePc s) s

/-- 0x38 NOP (R363). -/
def execNop38 (s : State) : Result := complete .nop38 (leavePc s) s

/-- 0xFB EI (R364). -/
def execEi (s : State) : Result := complete .ei (setInte true s) s

/-- 0xF3 DI (R365). -/
def execDi (s : State) : Result := complete .di (setInte false s) s

/-- 0xDB IN d8 (R366). -/
def execInPort (port : Byte) (s : State) : Result := complete (.inPort port) (inputA port s) s

/-- 0xD3 OUT d8 (R367). -/
def execOutPort (port : Byte) (s : State) : Result := complete (.outPort port) (outputA port s) s

end Sys2Proof.Machine
end

