-- ==== Sys2Proof/Machine/Logical.lean ====
section
/-! DEFINITION. The logical, compare, rotate and carry instructions (42_logical.md, R270 to R289): none writes PC, SP,
memory or a register other than A (R270). First the shared operations, then one meaning per constructor. -/

namespace Sys2Proof.Machine

/-- `A <- A op v`, the flags of `logic_flags` (R271 to R279). -/
def logicA (kind : LogicKind) (o : Source) (s : State) : Option Handled :=
  (readSource o s).bind fun v =>
    let res := logic8 kind s.a v
    leavePc { s with a := res, flags := logicFlags kind s.a v res s.flags }

/-- The flags of `A - v`, A not written, the incoming CY ignored (R280 to R282). -/
def compareA (o : Source) (s : State) : Option Handled :=
  (readSource o s).bind fun v => leavePc { s with flags := aluFlags (sub8 s.a v false) s.flags }

/-- A rotate of A, CY only (R283 to R286). -/
def rotateA (k : Rotate) (s : State) : Option Handled :=
  let r := rotate8 k s.a s.flags.cy
  leavePc { s with a := r.1, flags := { s.flags with cy := r.2 } }

/-- `A <- A ^ 0xFF`, no flag (R287). -/
def complementA (s : State) : Option Handled := leavePc { s with a := s.a ^^^ 0xFF }

/-- `CY <- 1 - CY` (R288). -/
def complementCarry (s : State) : Option Handled :=
  leavePc { s with flags := { s.flags with cy := !s.flags.cy } }

/-- `CY <- 1` (R289). -/
def setCarry (s : State) : Option Handled := leavePc { s with flags := { s.flags with cy := true } }

/-- 0xA0 ANA B (R271). -/
def execAnaB (s : State) : Result := complete .anaB (logicA .and (.reg .b) s) s

/-- 0xA1 ANA C (R271). -/
def execAnaC (s : State) : Result := complete .anaC (logicA .and (.reg .c) s) s

/-- 0xA2 ANA D (R271). -/
def execAnaD (s : State) : Result := complete .anaD (logicA .and (.reg .d) s) s

/-- 0xA3 ANA E (R271). -/
def execAnaE (s : State) : Result := complete .anaE (logicA .and (.reg .e) s) s

/-- 0xA4 ANA H (R271). -/
def execAnaH (s : State) : Result := complete .anaH (logicA .and (.reg .h) s) s

/-- 0xA5 ANA L (R271). -/
def execAnaL (s : State) : Result := complete .anaL (logicA .and (.reg .l) s) s

/-- 0xA7 ANA A (R271). -/
def execAnaA (s : State) : Result := complete .anaA (logicA .and (.reg .a) s) s

/-- 0xA6 ANA M (R272). -/
def execAnaM (s : State) : Result := complete .anaM (logicA .and .mem s) s

/-- 0xE6 ANI d8 (R273). -/
def execAni (imm : Byte) (s : State) : Result := complete (.ani imm) (logicA .and (.imm imm) s) s

/-- 0xA8 XRA B (R274). -/
def execXraB (s : State) : Result := complete .xraB (logicA .xor (.reg .b) s) s

/-- 0xA9 XRA C (R274). -/
def execXraC (s : State) : Result := complete .xraC (logicA .xor (.reg .c) s) s

/-- 0xAA XRA D (R274). -/
def execXraD (s : State) : Result := complete .xraD (logicA .xor (.reg .d) s) s

/-- 0xAB XRA E (R274). -/
def execXraE (s : State) : Result := complete .xraE (logicA .xor (.reg .e) s) s

/-- 0xAC XRA H (R274). -/
def execXraH (s : State) : Result := complete .xraH (logicA .xor (.reg .h) s) s

/-- 0xAD XRA L (R274). -/
def execXraL (s : State) : Result := complete .xraL (logicA .xor (.reg .l) s) s

/-- 0xAF XRA A (R274). -/
def execXraA (s : State) : Result := complete .xraA (logicA .xor (.reg .a) s) s

/-- 0xAE XRA M (R275). -/
def execXraM (s : State) : Result := complete .xraM (logicA .xor .mem s) s

/-- 0xEE XRI d8 (R276). -/
def execXri (imm : Byte) (s : State) : Result := complete (.xri imm) (logicA .xor (.imm imm) s) s

/-- 0xB0 ORA B (R277). -/
def execOraB (s : State) : Result := complete .oraB (logicA .or (.reg .b) s) s

/-- 0xB1 ORA C (R277). -/
def execOraC (s : State) : Result := complete .oraC (logicA .or (.reg .c) s) s

/-- 0xB2 ORA D (R277). -/
def execOraD (s : State) : Result := complete .oraD (logicA .or (.reg .d) s) s

/-- 0xB3 ORA E (R277). -/
def execOraE (s : State) : Result := complete .oraE (logicA .or (.reg .e) s) s

/-- 0xB4 ORA H (R277). -/
def execOraH (s : State) : Result := complete .oraH (logicA .or (.reg .h) s) s

/-- 0xB5 ORA L (R277). -/
def execOraL (s : State) : Result := complete .oraL (logicA .or (.reg .l) s) s

/-- 0xB7 ORA A (R277). -/
def execOraA (s : State) : Result := complete .oraA (logicA .or (.reg .a) s) s

/-- 0xB6 ORA M (R278). -/
def execOraM (s : State) : Result := complete .oraM (logicA .or .mem s) s

/-- 0xF6 ORI d8 (R279). -/
def execOri (imm : Byte) (s : State) : Result := complete (.ori imm) (logicA .or (.imm imm) s) s

/-- 0xB8 CMP B (R280). -/
def execCmpB (s : State) : Result := complete .cmpB (compareA (.reg .b) s) s

/-- 0xB9 CMP C (R280). -/
def execCmpC (s : State) : Result := complete .cmpC (compareA (.reg .c) s) s

/-- 0xBA CMP D (R280). -/
def execCmpD (s : State) : Result := complete .cmpD (compareA (.reg .d) s) s

/-- 0xBB CMP E (R280). -/
def execCmpE (s : State) : Result := complete .cmpE (compareA (.reg .e) s) s

/-- 0xBC CMP H (R280). -/
def execCmpH (s : State) : Result := complete .cmpH (compareA (.reg .h) s) s

/-- 0xBD CMP L (R280). -/
def execCmpL (s : State) : Result := complete .cmpL (compareA (.reg .l) s) s

/-- 0xBF CMP A (R280). -/
def execCmpA (s : State) : Result := complete .cmpA (compareA (.reg .a) s) s

/-- 0xBE CMP M (R281). -/
def execCmpM (s : State) : Result := complete .cmpM (compareA .mem s) s

/-- 0xFE CPI d8 (R282). -/
def execCpi (imm : Byte) (s : State) : Result := complete (.cpi imm) (compareA (.imm imm) s) s

/-- 0x07 RLC (R283). -/
def execRlc (s : State) : Result := complete .rlc (rotateA .rlc s) s

/-- 0x0F RRC (R284). -/
def execRrc (s : State) : Result := complete .rrc (rotateA .rrc s) s

/-- 0x17 RAL (R285). -/
def execRal (s : State) : Result := complete .ral (rotateA .ral s) s

/-- 0x1F RAR (R286). -/
def execRar (s : State) : Result := complete .rar (rotateA .rar s) s

/-- 0x2F CMA (R287). -/
def execCma (s : State) : Result := complete .cma (complementA s) s

/-- 0x3F CMC (R288). -/
def execCmc (s : State) : Result := complete .cmc (complementCarry s) s

/-- 0x37 STC (R289). -/
def execStc (s : State) : Result := complete .stc (setCarry s) s

end Sys2Proof.Machine
end

