-- ==== Sys2Proof/Machine/Dispatch.lean ====
section
/-! DEFINITION. What each instruction does: one arm per constructor, each one direct call of its meaning
(30_encoding.md R133, R140). -/

namespace Sys2Proof.Machine

def exec (i : Instr) (s : State) : Host.Outcome State Fault Refusal :=
  match i with
  | .movBB => Sys2Proof.Machine.execMovBB s
  | .movBC => Sys2Proof.Machine.execMovBC s
  | .movBD => Sys2Proof.Machine.execMovBD s
  | .movBE => Sys2Proof.Machine.execMovBE s
  | .movBH => Sys2Proof.Machine.execMovBH s
  | .movBL => Sys2Proof.Machine.execMovBL s
  | .movBA => Sys2Proof.Machine.execMovBA s
  | .movCB => Sys2Proof.Machine.execMovCB s
  | .movCC => Sys2Proof.Machine.execMovCC s
  | .movCD => Sys2Proof.Machine.execMovCD s
  | .movCE => Sys2Proof.Machine.execMovCE s
  | .movCH => Sys2Proof.Machine.execMovCH s
  | .movCL => Sys2Proof.Machine.execMovCL s
  | .movCA => Sys2Proof.Machine.execMovCA s
  | .movDB => Sys2Proof.Machine.execMovDB s
  | .movDC => Sys2Proof.Machine.execMovDC s
  | .movDD => Sys2Proof.Machine.execMovDD s
  | .movDE => Sys2Proof.Machine.execMovDE s
  | .movDH => Sys2Proof.Machine.execMovDH s
  | .movDL => Sys2Proof.Machine.execMovDL s
  | .movDA => Sys2Proof.Machine.execMovDA s
  | .movEB => Sys2Proof.Machine.execMovEB s
  | .movEC => Sys2Proof.Machine.execMovEC s
  | .movED => Sys2Proof.Machine.execMovED s
  | .movEE => Sys2Proof.Machine.execMovEE s
  | .movEH => Sys2Proof.Machine.execMovEH s
  | .movEL => Sys2Proof.Machine.execMovEL s
  | .movEA => Sys2Proof.Machine.execMovEA s
  | .movHB => Sys2Proof.Machine.execMovHB s
  | .movHC => Sys2Proof.Machine.execMovHC s
  | .movHD => Sys2Proof.Machine.execMovHD s
  | .movHE => Sys2Proof.Machine.execMovHE s
  | .movHH => Sys2Proof.Machine.execMovHH s
  | .movHL => Sys2Proof.Machine.execMovHL s
  | .movHA => Sys2Proof.Machine.execMovHA s
  | .movLB => Sys2Proof.Machine.execMovLB s
  | .movLC => Sys2Proof.Machine.execMovLC s
  | .movLD => Sys2Proof.Machine.execMovLD s
  | .movLE => Sys2Proof.Machine.execMovLE s
  | .movLH => Sys2Proof.Machine.execMovLH s
  | .movLL => Sys2Proof.Machine.execMovLL s
  | .movLA => Sys2Proof.Machine.execMovLA s
  | .movAB => Sys2Proof.Machine.execMovAB s
  | .movAC => Sys2Proof.Machine.execMovAC s
  | .movAD => Sys2Proof.Machine.execMovAD s
  | .movAE => Sys2Proof.Machine.execMovAE s
  | .movAH => Sys2Proof.Machine.execMovAH s
  | .movAL => Sys2Proof.Machine.execMovAL s
  | .movAA => Sys2Proof.Machine.execMovAA s
  | .movBM => Sys2Proof.Machine.execMovBM s
  | .movCM => Sys2Proof.Machine.execMovCM s
  | .movDM => Sys2Proof.Machine.execMovDM s
  | .movEM => Sys2Proof.Machine.execMovEM s
  | .movHM => Sys2Proof.Machine.execMovHM s
  | .movLM => Sys2Proof.Machine.execMovLM s
  | .movAM => Sys2Proof.Machine.execMovAM s
  | .movMB => Sys2Proof.Machine.execMovMB s
  | .movMC => Sys2Proof.Machine.execMovMC s
  | .movMD => Sys2Proof.Machine.execMovMD s
  | .movME => Sys2Proof.Machine.execMovME s
  | .movMH => Sys2Proof.Machine.execMovMH s
  | .movML => Sys2Proof.Machine.execMovML s
  | .movMA => Sys2Proof.Machine.execMovMA s
  | .mviB imm => Sys2Proof.Machine.execMviB imm s
  | .mviC imm => Sys2Proof.Machine.execMviC imm s
  | .mviD imm => Sys2Proof.Machine.execMviD imm s
  | .mviE imm => Sys2Proof.Machine.execMviE imm s
  | .mviH imm => Sys2Proof.Machine.execMviH imm s
  | .mviL imm => Sys2Proof.Machine.execMviL imm s
  | .mviA imm => Sys2Proof.Machine.execMviA imm s
  | .mviM imm => Sys2Proof.Machine.execMviM imm s
  | .lxiB imm => Sys2Proof.Machine.execLxiB imm s
  | .lxiD imm => Sys2Proof.Machine.execLxiD imm s
  | .lxiH imm => Sys2Proof.Machine.execLxiH imm s
  | .lxiSP imm => Sys2Proof.Machine.execLxiSP imm s
  | .lda addr => Sys2Proof.Machine.execLda addr s
  | .sta addr => Sys2Proof.Machine.execSta addr s
  | .ldaxB => Sys2Proof.Machine.execLdaxB s
  | .ldaxD => Sys2Proof.Machine.execLdaxD s
  | .staxB => Sys2Proof.Machine.execStaxB s
  | .staxD => Sys2Proof.Machine.execStaxD s
  | .lhld addr => Sys2Proof.Machine.execLhld addr s
  | .shld addr => Sys2Proof.Machine.execShld addr s
  | .xchg => Sys2Proof.Machine.execXchg s
  | .anaB => Sys2Proof.Machine.execAnaB s
  | .anaC => Sys2Proof.Machine.execAnaC s
  | .anaD => Sys2Proof.Machine.execAnaD s
  | .anaE => Sys2Proof.Machine.execAnaE s
  | .anaH => Sys2Proof.Machine.execAnaH s
  | .anaL => Sys2Proof.Machine.execAnaL s
  | .anaA => Sys2Proof.Machine.execAnaA s
  | .anaM => Sys2Proof.Machine.execAnaM s
  | .ani imm => Sys2Proof.Machine.execAni imm s
  | .xraB => Sys2Proof.Machine.execXraB s
  | .xraC => Sys2Proof.Machine.execXraC s
  | .xraD => Sys2Proof.Machine.execXraD s
  | .xraE => Sys2Proof.Machine.execXraE s
  | .xraH => Sys2Proof.Machine.execXraH s
  | .xraL => Sys2Proof.Machine.execXraL s
  | .xraA => Sys2Proof.Machine.execXraA s
  | .xraM => Sys2Proof.Machine.execXraM s
  | .xri imm => Sys2Proof.Machine.execXri imm s
  | .oraB => Sys2Proof.Machine.execOraB s
  | .oraC => Sys2Proof.Machine.execOraC s
  | .oraD => Sys2Proof.Machine.execOraD s
  | .oraE => Sys2Proof.Machine.execOraE s
  | .oraH => Sys2Proof.Machine.execOraH s
  | .oraL => Sys2Proof.Machine.execOraL s
  | .oraA => Sys2Proof.Machine.execOraA s
  | .oraM => Sys2Proof.Machine.execOraM s
  | .ori imm => Sys2Proof.Machine.execOri imm s
  | .cmpB => Sys2Proof.Machine.execCmpB s
  | .cmpC => Sys2Proof.Machine.execCmpC s
  | .cmpD => Sys2Proof.Machine.execCmpD s
  | .cmpE => Sys2Proof.Machine.execCmpE s
  | .cmpH => Sys2Proof.Machine.execCmpH s
  | .cmpL => Sys2Proof.Machine.execCmpL s
  | .cmpA => Sys2Proof.Machine.execCmpA s
  | .cmpM => Sys2Proof.Machine.execCmpM s
  | .cpi imm => Sys2Proof.Machine.execCpi imm s
  | .rlc => Sys2Proof.Machine.execRlc s
  | .rrc => Sys2Proof.Machine.execRrc s
  | .ral => Sys2Proof.Machine.execRal s
  | .rar => Sys2Proof.Machine.execRar s
  | .cma => Sys2Proof.Machine.execCma s
  | .cmc => Sys2Proof.Machine.execCmc s
  | .stc => Sys2Proof.Machine.execStc s
  | .jmp addr => Sys2Proof.Machine.execJmp addr s
  | .jnz addr => Sys2Proof.Machine.execJnz addr s
  | .jz addr => Sys2Proof.Machine.execJz addr s
  | .jnc addr => Sys2Proof.Machine.execJnc addr s
  | .jc addr => Sys2Proof.Machine.execJc addr s
  | .jpo addr => Sys2Proof.Machine.execJpo addr s
  | .jpe addr => Sys2Proof.Machine.execJpe addr s
  | .jp addr => Sys2Proof.Machine.execJp addr s
  | .jm addr => Sys2Proof.Machine.execJm addr s
  | .call addr => Sys2Proof.Machine.execCall addr s
  | .cnz addr => Sys2Proof.Machine.execCnz addr s
  | .cz addr => Sys2Proof.Machine.execCz addr s
  | .cnc addr => Sys2Proof.Machine.execCnc addr s
  | .cc addr => Sys2Proof.Machine.execCc addr s
  | .cpo addr => Sys2Proof.Machine.execCpo addr s
  | .cpe addr => Sys2Proof.Machine.execCpe addr s
  | .cp addr => Sys2Proof.Machine.execCp addr s
  | .cm addr => Sys2Proof.Machine.execCm addr s
  | .ret => Sys2Proof.Machine.execRet s
  | .rnz => Sys2Proof.Machine.execRnz s
  | .rz => Sys2Proof.Machine.execRz s
  | .rnc => Sys2Proof.Machine.execRnc s
  | .rc => Sys2Proof.Machine.execRc s
  | .rpo => Sys2Proof.Machine.execRpo s
  | .rpe => Sys2Proof.Machine.execRpe s
  | .rp => Sys2Proof.Machine.execRp s
  | .rm => Sys2Proof.Machine.execRm s
  | .rst0 => Sys2Proof.Machine.execRst0 s
  | .rst1 => Sys2Proof.Machine.execRst1 s
  | .rst2 => Sys2Proof.Machine.execRst2 s
  | .rst3 => Sys2Proof.Machine.execRst3 s
  | .rst4 => Sys2Proof.Machine.execRst4 s
  | .rst5 => Sys2Proof.Machine.execRst5 s
  | .rst6 => Sys2Proof.Machine.execRst6 s
  | .rst7 => Sys2Proof.Machine.execRst7 s
  | .pchl => Sys2Proof.Machine.execPchl s
  | .pushB => Sys2Proof.Machine.execPushB s
  | .pushD => Sys2Proof.Machine.execPushD s
  | .pushH => Sys2Proof.Machine.execPushH s
  | .pushPSW => Sys2Proof.Machine.execPushPSW s
  | .popB => Sys2Proof.Machine.execPopB s
  | .popD => Sys2Proof.Machine.execPopD s
  | .popH => Sys2Proof.Machine.execPopH s
  | .popPSW => Sys2Proof.Machine.execPopPSW s
  | .xthl => Sys2Proof.Machine.execXthl s
  | .sphl => Sys2Proof.Machine.execSphl s
  | .jmpCB addr => Sys2Proof.Machine.execJmpCB addr s
  | .retCB => Sys2Proof.Machine.execRetCB s
  | .retD9 => Sys2Proof.Machine.execRetD9 s
  | .callDD addr => Sys2Proof.Machine.execCallDD addr s
  | .callED addr => Sys2Proof.Machine.execCallED addr s
  | .callFD addr => Sys2Proof.Machine.execCallFD addr s
  | .hlt => Sys2Proof.Machine.execHlt s
  | .nop => Sys2Proof.Machine.execNop s
  | .nop08 => Sys2Proof.Machine.execNop08 s
  | .nop10 => Sys2Proof.Machine.execNop10 s
  | .nop18 => Sys2Proof.Machine.execNop18 s
  | .nop20 => Sys2Proof.Machine.execNop20 s
  | .nop28 => Sys2Proof.Machine.execNop28 s
  | .nop30 => Sys2Proof.Machine.execNop30 s
  | .nop38 => Sys2Proof.Machine.execNop38 s
  | .ei => Sys2Proof.Machine.execEi s
  | .di => Sys2Proof.Machine.execDi s
  | .inPort port => Sys2Proof.Machine.execInPort port s
  | .outPort port => Sys2Proof.Machine.execOutPort port s
  | .addB => Sys2Proof.Machine.execAddB s
  | .addC => Sys2Proof.Machine.execAddC s
  | .addD => Sys2Proof.Machine.execAddD s
  | .addE => Sys2Proof.Machine.execAddE s
  | .addH => Sys2Proof.Machine.execAddH s
  | .addL => Sys2Proof.Machine.execAddL s
  | .addA => Sys2Proof.Machine.execAddA s
  | .addM => Sys2Proof.Machine.execAddM s
  | .adi imm => Sys2Proof.Machine.execAdi imm s
  | .adcB => Sys2Proof.Machine.execAdcB s
  | .adcC => Sys2Proof.Machine.execAdcC s
  | .adcD => Sys2Proof.Machine.execAdcD s
  | .adcE => Sys2Proof.Machine.execAdcE s
  | .adcH => Sys2Proof.Machine.execAdcH s
  | .adcL => Sys2Proof.Machine.execAdcL s
  | .adcA => Sys2Proof.Machine.execAdcA s
  | .adcM => Sys2Proof.Machine.execAdcM s
  | .aci imm => Sys2Proof.Machine.execAci imm s
  | .subB => Sys2Proof.Machine.execSubB s
  | .subC => Sys2Proof.Machine.execSubC s
  | .subD => Sys2Proof.Machine.execSubD s
  | .subE => Sys2Proof.Machine.execSubE s
  | .subH => Sys2Proof.Machine.execSubH s
  | .subL => Sys2Proof.Machine.execSubL s
  | .subA => Sys2Proof.Machine.execSubA s
  | .subM => Sys2Proof.Machine.execSubM s
  | .sui imm => Sys2Proof.Machine.execSui imm s
  | .sbbB => Sys2Proof.Machine.execSbbB s
  | .sbbC => Sys2Proof.Machine.execSbbC s
  | .sbbD => Sys2Proof.Machine.execSbbD s
  | .sbbE => Sys2Proof.Machine.execSbbE s
  | .sbbH => Sys2Proof.Machine.execSbbH s
  | .sbbL => Sys2Proof.Machine.execSbbL s
  | .sbbA => Sys2Proof.Machine.execSbbA s
  | .sbbM => Sys2Proof.Machine.execSbbM s
  | .sbi imm => Sys2Proof.Machine.execSbi imm s
  | .inrB => Sys2Proof.Machine.execInrB s
  | .inrC => Sys2Proof.Machine.execInrC s
  | .inrD => Sys2Proof.Machine.execInrD s
  | .inrE => Sys2Proof.Machine.execInrE s
  | .inrH => Sys2Proof.Machine.execInrH s
  | .inrL => Sys2Proof.Machine.execInrL s
  | .inrA => Sys2Proof.Machine.execInrA s
  | .inrM => Sys2Proof.Machine.execInrM s
  | .dcrB => Sys2Proof.Machine.execDcrB s
  | .dcrC => Sys2Proof.Machine.execDcrC s
  | .dcrD => Sys2Proof.Machine.execDcrD s
  | .dcrE => Sys2Proof.Machine.execDcrE s
  | .dcrH => Sys2Proof.Machine.execDcrH s
  | .dcrL => Sys2Proof.Machine.execDcrL s
  | .dcrA => Sys2Proof.Machine.execDcrA s
  | .dcrM => Sys2Proof.Machine.execDcrM s
  | .inxB => Sys2Proof.Machine.execInxB s
  | .inxD => Sys2Proof.Machine.execInxD s
  | .inxH => Sys2Proof.Machine.execInxH s
  | .inxSP => Sys2Proof.Machine.execInxSP s
  | .dcxB => Sys2Proof.Machine.execDcxB s
  | .dcxD => Sys2Proof.Machine.execDcxD s
  | .dcxH => Sys2Proof.Machine.execDcxH s
  | .dcxSP => Sys2Proof.Machine.execDcxSP s
  | .dadB => Sys2Proof.Machine.execDadB s
  | .dadD => Sys2Proof.Machine.execDadD s
  | .dadH => Sys2Proof.Machine.execDadH s
  | .dadSP => Sys2Proof.Machine.execDadSP s
  | .daa => Sys2Proof.Machine.execDaa s

end Sys2Proof.Machine
end

