-- ==== Sys2Proof/Machine/Step.lean ====
section
/-! DEFINITION. One step of the machine (30_encoding.md R140, R144) and the placing of an instruction where the next
step fetches it. -/

namespace Sys2Proof.Machine

/-- `Step()`: nothing in HALTED (R144); in RUNNING the three-byte fetch, the table lookup and the handler (R140). -/
def step (s : State) : Host.Outcome State Fault Refusal :=
  match s.run with
  | .halted => .next s
  | .running =>
    match fetch s with
    | .error f => .fault f
    | .ok w => exec (decode s.params.cbAlias w.op w.b2 w.b3) s

/-- `s` with the instruction word `w` of `nbits` bits in the three bytes at PC, where the next step fetches it,
and RUN = RUNNING, without which a step fetches nothing (log entry 6). -/
def State.withFetchWord (s : State) (nbits w : Nat) : State :=
  let v := w % 2 ^ nbits
  let m0 := s.mem.write s.pc.toNat (BitVec.ofNat 8 v)
  let m1 := m0.write (s.pc + 1).toNat (BitVec.ofNat 8 (v / 256))
  let m2 := m1.write (s.pc + 2).toNat (BitVec.ofNat 8 (v / 65536))
  { s with run := .running, mem := m2 }

end Sys2Proof.Machine
end

