-- ==== Sys2Proof/Machine/Forms.lean ====
section
/-! DEFINITION. The instruction FORMS of the spec, one per instruction rule, with the fields of 30_encoding.md R124 to
R127 as arguments where opcode_table.json has a row for each value of them. `formOf` reads the form of an instruction
(an opcode that behaves as another has that one's form, R131); `instrOf` is the documented instruction of a form.
Claims speak of all the rows of one rule through them. -/

namespace Sys2Proof.Machine

/-- The forms (the field `generic` of opcode_table.json, R150), with their operands. -/
inductive Form where
  | movRR (dst src : Reg) | movRM (dst : Reg) | movMR (src : Reg)
  | mviR (dst : Reg) (imm : Byte) | mviM (imm : Byte)
  | lxi (p : Pair) (imm : Word) | lxiSP (imm : Word)
  | lda (addr : Word) | sta (addr : Word) | ldaxB | ldaxD | staxB | staxD
  | lhld (addr : Word) | shld (addr : Word) | xchg
  | accR (op : AccOp) (src : Reg) | accM (op : AccOp) | accI (op : AccOp) (imm : Byte)
  | rlc | rrc | ral | rar | cma | cmc | stc
  | jmp (addr : Word) | jcc (cond : Cond) (addr : Word)
  | call (addr : Word) | ccc (cond : Cond) (addr : Word)
  | ret | rcc (cond : Cond) | rst (n : RstNum) | pchl
  | push (p : Pair) | pushPSW | pop (p : Pair) | popPSW | xthl | sphl
  | hlt | nop | ei | di | inPort (port : Byte) | outPort (port : Byte)
  | inrR (dst : Reg) | inrM | dcrR (dst : Reg) | dcrM
  | inx (p : Pair) | inxSP | dcx (p : Pair) | dcxSP | dad (p : Pair) | dadSP | daa
  deriving DecidableEq, Repr

/-- The form of an instruction. -/
def formOf (i : Instr) : Form :=
  match i with
  | .movBB => .movRR .b .b
  | .movBC => .movRR .b .c
  | .movBD => .movRR .b .d
  | .movBE => .movRR .b .e
  | .movBH => .movRR .b .h
  | .movBL => .movRR .b .l
  | .movBA => .movRR .b .a
  | .movCB => .movRR .c .b
  | .movCC => .movRR .c .c
  | .movCD => .movRR .c .d
  | .movCE => .movRR .c .e
  | .movCH => .movRR .c .h
  | .movCL => .movRR .c .l
  | .movCA => .movRR .c .a
  | .movDB => .movRR .d .b
  | .movDC => .movRR .d .c
  | .movDD => .movRR .d .d
  | .movDE => .movRR .d .e
  | .movDH => .movRR .d .h
  | .movDL => .movRR .d .l
  | .movDA => .movRR .d .a
  | .movEB => .movRR .e .b
  | .movEC => .movRR .e .c
  | .movED => .movRR .e .d
  | .movEE => .movRR .e .e
  | .movEH => .movRR .e .h
  | .movEL => .movRR .e .l
  | .movEA => .movRR .e .a
  | .movHB => .movRR .h .b
  | .movHC => .movRR .h .c
  | .movHD => .movRR .h .d
  | .movHE => .movRR .h .e
  | .movHH => .movRR .h .h
  | .movHL => .movRR .h .l
  | .movHA => .movRR .h .a
  | .movLB => .movRR .l .b
  | .movLC => .movRR .l .c
  | .movLD => .movRR .l .d
  | .movLE => .movRR .l .e
  | .movLH => .movRR .l .h
  | .movLL => .movRR .l .l
  | .movLA => .movRR .l .a
  | .movAB => .movRR .a .b
  | .movAC => .movRR .a .c
  | .movAD => .movRR .a .d
  | .movAE => .movRR .a .e
  | .movAH => .movRR .a .h
  | .movAL => .movRR .a .l
  | .movAA => .movRR .a .a
  | .movBM => .movRM .b
  | .movCM => .movRM .c
  | .movDM => .movRM .d
  | .movEM => .movRM .e
  | .movHM => .movRM .h
  | .movLM => .movRM .l
  | .movAM => .movRM .a
  | .movMB => .movMR .b
  | .movMC => .movMR .c
  | .movMD => .movMR .d
  | .movME => .movMR .e
  | .movMH => .movMR .h
  | .movML => .movMR .l
  | .movMA => .movMR .a
  | .mviB imm => .mviR .b imm
  | .mviC imm => .mviR .c imm
  | .mviD imm => .mviR .d imm
  | .mviE imm => .mviR .e imm
  | .mviH imm => .mviR .h imm
  | .mviL imm => .mviR .l imm
  | .mviA imm => .mviR .a imm
  | .mviM imm => .mviM imm
  | .lxiB imm => .lxi .bc imm
  | .lxiD imm => .lxi .de imm
  | .lxiH imm => .lxi .hl imm
  | .lxiSP imm => .lxiSP imm
  | .lda addr => .lda addr
  | .sta addr => .sta addr
  | .ldaxB => .ldaxB
  | .ldaxD => .ldaxD
  | .staxB => .staxB
  | .staxD => .staxD
  | .lhld addr => .lhld addr
  | .shld addr => .shld addr
  | .xchg => .xchg
  | .anaB => .accR .ana .b
  | .anaC => .accR .ana .c
  | .anaD => .accR .ana .d
  | .anaE => .accR .ana .e
  | .anaH => .accR .ana .h
  | .anaL => .accR .ana .l
  | .anaA => .accR .ana .a
  | .anaM => .accM .ana
  | .ani imm => .accI .ana imm
  | .xraB => .accR .xra .b
  | .xraC => .accR .xra .c
  | .xraD => .accR .xra .d
  | .xraE => .accR .xra .e
  | .xraH => .accR .xra .h
  | .xraL => .accR .xra .l
  | .xraA => .accR .xra .a
  | .xraM => .accM .xra
  | .xri imm => .accI .xra imm
  | .oraB => .accR .ora .b
  | .oraC => .accR .ora .c
  | .oraD => .accR .ora .d
  | .oraE => .accR .ora .e
  | .oraH => .accR .ora .h
  | .oraL => .accR .ora .l
  | .oraA => .accR .ora .a
  | .oraM => .accM .ora
  | .ori imm => .accI .ora imm
  | .cmpB => .accR .cmp .b
  | .cmpC => .accR .cmp .c
  | .cmpD => .accR .cmp .d
  | .cmpE => .accR .cmp .e
  | .cmpH => .accR .cmp .h
  | .cmpL => .accR .cmp .l
  | .cmpA => .accR .cmp .a
  | .cmpM => .accM .cmp
  | .cpi imm => .accI .cmp imm
  | .rlc => .rlc
  | .rrc => .rrc
  | .ral => .ral
  | .rar => .rar
  | .cma => .cma
  | .cmc => .cmc
  | .stc => .stc
  | .jmp addr => .jmp addr
  | .jnz addr => .jcc .nz addr
  | .jz addr => .jcc .z addr
  | .jnc addr => .jcc .nc addr
  | .jc addr => .jcc .c addr
  | .jpo addr => .jcc .po addr
  | .jpe addr => .jcc .pe addr
  | .jp addr => .jcc .p addr
  | .jm addr => .jcc .m addr
  | .call addr => .call addr
  | .cnz addr => .ccc .nz addr
  | .cz addr => .ccc .z addr
  | .cnc addr => .ccc .nc addr
  | .cc addr => .ccc .c addr
  | .cpo addr => .ccc .po addr
  | .cpe addr => .ccc .pe addr
  | .cp addr => .ccc .p addr
  | .cm addr => .ccc .m addr
  | .ret => .ret
  | .rnz => .rcc .nz
  | .rz => .rcc .z
  | .rnc => .rcc .nc
  | .rc => .rcc .c
  | .rpo => .rcc .po
  | .rpe => .rcc .pe
  | .rp => .rcc .p
  | .rm => .rcc .m
  | .rst0 => .rst .r0
  | .rst1 => .rst .r1
  | .rst2 => .rst .r2
  | .rst3 => .rst .r3
  | .rst4 => .rst .r4
  | .rst5 => .rst .r5
  | .rst6 => .rst .r6
  | .rst7 => .rst .r7
  | .pchl => .pchl
  | .pushB => .push .bc
  | .pushD => .push .de
  | .pushH => .push .hl
  | .pushPSW => .pushPSW
  | .popB => .pop .bc
  | .popD => .pop .de
  | .popH => .pop .hl
  | .popPSW => .popPSW
  | .xthl => .xthl
  | .sphl => .sphl
  | .jmpCB addr => .jmp addr
  | .retCB => .ret
  | .retD9 => .ret
  | .callDD addr => .call addr
  | .callED addr => .call addr
  | .callFD addr => .call addr
  | .hlt => .hlt
  | .nop => .nop
  | .nop08 => .nop
  | .nop10 => .nop
  | .nop18 => .nop
  | .nop20 => .nop
  | .nop28 => .nop
  | .nop30 => .nop
  | .nop38 => .nop
  | .ei => .ei
  | .di => .di
  | .inPort port => .inPort port
  | .outPort port => .outPort port
  | .addB => .accR .add .b
  | .addC => .accR .add .c
  | .addD => .accR .add .d
  | .addE => .accR .add .e
  | .addH => .accR .add .h
  | .addL => .accR .add .l
  | .addA => .accR .add .a
  | .addM => .accM .add
  | .adi imm => .accI .add imm
  | .adcB => .accR .adc .b
  | .adcC => .accR .adc .c
  | .adcD => .accR .adc .d
  | .adcE => .accR .adc .e
  | .adcH => .accR .adc .h
  | .adcL => .accR .adc .l
  | .adcA => .accR .adc .a
  | .adcM => .accM .adc
  | .aci imm => .accI .adc imm
  | .subB => .accR .sub .b
  | .subC => .accR .sub .c
  | .subD => .accR .sub .d
  | .subE => .accR .sub .e
  | .subH => .accR .sub .h
  | .subL => .accR .sub .l
  | .subA => .accR .sub .a
  | .subM => .accM .sub
  | .sui imm => .accI .sub imm
  | .sbbB => .accR .sbb .b
  | .sbbC => .accR .sbb .c
  | .sbbD => .accR .sbb .d
  | .sbbE => .accR .sbb .e
  | .sbbH => .accR .sbb .h
  | .sbbL => .accR .sbb .l
  | .sbbA => .accR .sbb .a
  | .sbbM => .accM .sbb
  | .sbi imm => .accI .sbb imm
  | .inrB => .inrR .b
  | .inrC => .inrR .c
  | .inrD => .inrR .d
  | .inrE => .inrR .e
  | .inrH => .inrR .h
  | .inrL => .inrR .l
  | .inrA => .inrR .a
  | .inrM => .inrM
  | .dcrB => .dcrR .b
  | .dcrC => .dcrR .c
  | .dcrD => .dcrR .d
  | .dcrE => .dcrR .e
  | .dcrH => .dcrR .h
  | .dcrL => .dcrR .l
  | .dcrA => .dcrR .a
  | .dcrM => .dcrM
  | .inxB => .inx .bc
  | .inxD => .inx .de
  | .inxH => .inx .hl
  | .inxSP => .inxSP
  | .dcxB => .dcx .bc
  | .dcxD => .dcx .de
  | .dcxH => .dcx .hl
  | .dcxSP => .dcxSP
  | .dadB => .dad .bc
  | .dadD => .dad .de
  | .dadH => .dad .hl
  | .dadSP => .dadSP
  | .daa => .daa

/-- The documented instruction of a form. -/
def instrOf (f : Form) : Instr :=
  match f with
  | .movRR .b .b => .movBB
  | .movRR .b .c => .movBC
  | .movRR .b .d => .movBD
  | .movRR .b .e => .movBE
  | .movRR .b .h => .movBH
  | .movRR .b .l => .movBL
  | .movRR .b .a => .movBA
  | .movRR .c .b => .movCB
  | .movRR .c .c => .movCC
  | .movRR .c .d => .movCD
  | .movRR .c .e => .movCE
  | .movRR .c .h => .movCH
  | .movRR .c .l => .movCL
  | .movRR .c .a => .movCA
  | .movRR .d .b => .movDB
  | .movRR .d .c => .movDC
  | .movRR .d .d => .movDD
  | .movRR .d .e => .movDE
  | .movRR .d .h => .movDH
  | .movRR .d .l => .movDL
  | .movRR .d .a => .movDA
  | .movRR .e .b => .movEB
  | .movRR .e .c => .movEC
  | .movRR .e .d => .movED
  | .movRR .e .e => .movEE
  | .movRR .e .h => .movEH
  | .movRR .e .l => .movEL
  | .movRR .e .a => .movEA
  | .movRR .h .b => .movHB
  | .movRR .h .c => .movHC
  | .movRR .h .d => .movHD
  | .movRR .h .e => .movHE
  | .movRR .h .h => .movHH
  | .movRR .h .l => .movHL
  | .movRR .h .a => .movHA
  | .movRR .l .b => .movLB
  | .movRR .l .c => .movLC
  | .movRR .l .d => .movLD
  | .movRR .l .e => .movLE
  | .movRR .l .h => .movLH
  | .movRR .l .l => .movLL
  | .movRR .l .a => .movLA
  | .movRR .a .b => .movAB
  | .movRR .a .c => .movAC
  | .movRR .a .d => .movAD
  | .movRR .a .e => .movAE
  | .movRR .a .h => .movAH
  | .movRR .a .l => .movAL
  | .movRR .a .a => .movAA
  | .movRM .b => .movBM
  | .movRM .c => .movCM
  | .movRM .d => .movDM
  | .movRM .e => .movEM
  | .movRM .h => .movHM
  | .movRM .l => .movLM
  | .movRM .a => .movAM
  | .movMR .b => .movMB
  | .movMR .c => .movMC
  | .movMR .d => .movMD
  | .movMR .e => .movME
  | .movMR .h => .movMH
  | .movMR .l => .movML
  | .movMR .a => .movMA
  | .mviR .b imm => .mviB imm
  | .mviR .c imm => .mviC imm
  | .mviR .d imm => .mviD imm
  | .mviR .e imm => .mviE imm
  | .mviR .h imm => .mviH imm
  | .mviR .l imm => .mviL imm
  | .mviR .a imm => .mviA imm
  | .mviM imm => .mviM imm
  | .lxi .bc imm => .lxiB imm
  | .lxi .de imm => .lxiD imm
  | .lxi .hl imm => .lxiH imm
  | .lxiSP imm => .lxiSP imm
  | .lda addr => .lda addr
  | .sta addr => .sta addr
  | .ldaxB => .ldaxB
  | .ldaxD => .ldaxD
  | .staxB => .staxB
  | .staxD => .staxD
  | .lhld addr => .lhld addr
  | .shld addr => .shld addr
  | .xchg => .xchg
  | .accR .ana .b => .anaB
  | .accR .ana .c => .anaC
  | .accR .ana .d => .anaD
  | .accR .ana .e => .anaE
  | .accR .ana .h => .anaH
  | .accR .ana .l => .anaL
  | .accR .ana .a => .anaA
  | .accM .ana => .anaM
  | .accI .ana imm => .ani imm
  | .accR .xra .b => .xraB
  | .accR .xra .c => .xraC
  | .accR .xra .d => .xraD
  | .accR .xra .e => .xraE
  | .accR .xra .h => .xraH
  | .accR .xra .l => .xraL
  | .accR .xra .a => .xraA
  | .accM .xra => .xraM
  | .accI .xra imm => .xri imm
  | .accR .ora .b => .oraB
  | .accR .ora .c => .oraC
  | .accR .ora .d => .oraD
  | .accR .ora .e => .oraE
  | .accR .ora .h => .oraH
  | .accR .ora .l => .oraL
  | .accR .ora .a => .oraA
  | .accM .ora => .oraM
  | .accI .ora imm => .ori imm
  | .accR .cmp .b => .cmpB
  | .accR .cmp .c => .cmpC
  | .accR .cmp .d => .cmpD
  | .accR .cmp .e => .cmpE
  | .accR .cmp .h => .cmpH
  | .accR .cmp .l => .cmpL
  | .accR .cmp .a => .cmpA
  | .accM .cmp => .cmpM
  | .accI .cmp imm => .cpi imm
  | .rlc => .rlc
  | .rrc => .rrc
  | .ral => .ral
  | .rar => .rar
  | .cma => .cma
  | .cmc => .cmc
  | .stc => .stc
  | .jmp addr => .jmp addr
  | .jcc .nz addr => .jnz addr
  | .jcc .z addr => .jz addr
  | .jcc .nc addr => .jnc addr
  | .jcc .c addr => .jc addr
  | .jcc .po addr => .jpo addr
  | .jcc .pe addr => .jpe addr
  | .jcc .p addr => .jp addr
  | .jcc .m addr => .jm addr
  | .call addr => .call addr
  | .ccc .nz addr => .cnz addr
  | .ccc .z addr => .cz addr
  | .ccc .nc addr => .cnc addr
  | .ccc .c addr => .cc addr
  | .ccc .po addr => .cpo addr
  | .ccc .pe addr => .cpe addr
  | .ccc .p addr => .cp addr
  | .ccc .m addr => .cm addr
  | .ret => .ret
  | .rcc .nz => .rnz
  | .rcc .z => .rz
  | .rcc .nc => .rnc
  | .rcc .c => .rc
  | .rcc .po => .rpo
  | .rcc .pe => .rpe
  | .rcc .p => .rp
  | .rcc .m => .rm
  | .rst .r0 => .rst0
  | .rst .r1 => .rst1
  | .rst .r2 => .rst2
  | .rst .r3 => .rst3
  | .rst .r4 => .rst4
  | .rst .r5 => .rst5
  | .rst .r6 => .rst6
  | .rst .r7 => .rst7
  | .pchl => .pchl
  | .push .bc => .pushB
  | .push .de => .pushD
  | .push .hl => .pushH
  | .pushPSW => .pushPSW
  | .pop .bc => .popB
  | .pop .de => .popD
  | .pop .hl => .popH
  | .popPSW => .popPSW
  | .xthl => .xthl
  | .sphl => .sphl
  | .hlt => .hlt
  | .nop => .nop
  | .ei => .ei
  | .di => .di
  | .inPort port => .inPort port
  | .outPort port => .outPort port
  | .accR .add .b => .addB
  | .accR .add .c => .addC
  | .accR .add .d => .addD
  | .accR .add .e => .addE
  | .accR .add .h => .addH
  | .accR .add .l => .addL
  | .accR .add .a => .addA
  | .accM .add => .addM
  | .accI .add imm => .adi imm
  | .accR .adc .b => .adcB
  | .accR .adc .c => .adcC
  | .accR .adc .d => .adcD
  | .accR .adc .e => .adcE
  | .accR .adc .h => .adcH
  | .accR .adc .l => .adcL
  | .accR .adc .a => .adcA
  | .accM .adc => .adcM
  | .accI .adc imm => .aci imm
  | .accR .sub .b => .subB
  | .accR .sub .c => .subC
  | .accR .sub .d => .subD
  | .accR .sub .e => .subE
  | .accR .sub .h => .subH
  | .accR .sub .l => .subL
  | .accR .sub .a => .subA
  | .accM .sub => .subM
  | .accI .sub imm => .sui imm
  | .accR .sbb .b => .sbbB
  | .accR .sbb .c => .sbbC
  | .accR .sbb .d => .sbbD
  | .accR .sbb .e => .sbbE
  | .accR .sbb .h => .sbbH
  | .accR .sbb .l => .sbbL
  | .accR .sbb .a => .sbbA
  | .accM .sbb => .sbbM
  | .accI .sbb imm => .sbi imm
  | .inrR .b => .inrB
  | .inrR .c => .inrC
  | .inrR .d => .inrD
  | .inrR .e => .inrE
  | .inrR .h => .inrH
  | .inrR .l => .inrL
  | .inrR .a => .inrA
  | .inrM => .inrM
  | .dcrR .b => .dcrB
  | .dcrR .c => .dcrC
  | .dcrR .d => .dcrD
  | .dcrR .e => .dcrE
  | .dcrR .h => .dcrH
  | .dcrR .l => .dcrL
  | .dcrR .a => .dcrA
  | .dcrM => .dcrM
  | .inx .bc => .inxB
  | .inx .de => .inxD
  | .inx .hl => .inxH
  | .inxSP => .inxSP
  | .dcx .bc => .dcxB
  | .dcx .de => .dcxD
  | .dcx .hl => .dcxH
  | .dcxSP => .dcxSP
  | .dad .bc => .dadB
  | .dad .de => .dadD
  | .dad .hl => .dadH
  | .dadSP => .dadSP
  | .daa => .daa

/-- The seven instructions that behave as NOP (R131, R363). -/
def nopAliases : List Instr := [.nop08, .nop10, .nop18, .nop20, .nop28, .nop30, .nop38]

/-- The 3-bit code of a register (R124); 110 is M. -/
def regCode : Reg → BitVec 3
  | .b => 0b000 | .c => 0b001 | .d => 0b010 | .e => 0b011 | .h => 0b100 | .l => 0b101 | .a => 0b111

/-- The code of M in a register field (R124). -/
def codeM : BitVec 3 := 0b110

/-- The 2-bit code of a pair (R125). -/
def pairCode : Pair → BitVec 2
  | .bc => 0b00 | .de => 0b01 | .hl => 0b10

/-- The code that is SP in LXI, INX, DCX and DAD, and PSW in PUSH and POP (R125; D15). -/
def codeSpPsw : BitVec 2 := 0b11

/-- The 3-bit code of a condition (R126, R301). -/
def condCode : Cond → BitVec 3
  | .nz => 0b000 | .z => 0b001 | .nc => 0b010 | .c => 0b011 | .po => 0b100 | .pe => 0b101 | .p => 0b110 | .m => 0b111

/-- The 3-bit code of an accumulator operation (R127). -/
def accOpCode : AccOp → BitVec 3
  | .add => 0b000 | .adc => 0b001 | .sub => 0b010 | .sbb => 0b011
  | .ana => 0b100 | .xra => 0b101 | .ora => 0b110 | .cmp => 0b111

/-- The field `nnn` of RST (R127). -/
def rstCode : RstNum → BitVec 3
  | .r0 => 0 | .r1 => 1 | .r2 => 2 | .r3 => 3 | .r4 => 4 | .r5 => 5 | .r6 => 6 | .r7 => 7

/-- The address a restart goes to, `n * 8` (R332). -/
def restartVector (n : RstNum) : Word := 8 * (rstCode n).setWidth 16

end Sys2Proof.Machine
end

