-- ==== Sys2Proof/Machine/Interface.lean ====
section
/-! DEFINITION. The host's operations on the core (70_reset_and_hazards.md R450 to R460): `load` before a run,
`run_until_halt()` and batches of steps during it, the read-only snapshot between steps, and what is observed of a run
(R466). `create` is `State.create`, `step()` is `step`; the port hooks are `hostAnswer` and `hostAfterOutput`
(20_memory.md R99). -/

namespace Sys2Proof.Machine

/-- The bytes of `load` one by one: `Mem[start + i] <- bytes[i]` (R452). -/
def loadBytes : List Byte → Nat → Memory → Memory
  | [], _, m => m
  | v :: rest, a, m => loadBytes rest (a + 1) (m.write a v)

/-- `load(bytes, start_address)`: refused when its last byte would land at or beyond MEM_SIZE (R452 item 3). -/
def load (bytes : List Byte) (start : Word) (s : State) : Result :=
  if start.toNat + bytes.length > s.params.memSize then .refused .misconfiguredLoad
  else .next { s with mem := loadBytes bytes start.toNat s.mem }

/-- How a run of steps ends (R466, R422): stopped by the host or HALTED, with its state; or by a fault, with the report
and the OUT events before it; `refused` is kept apart, as a step's outcome keeps it. -/
inductive RunEnd where
  | stopped (s : State)
  | faulted (report : Fault) (events : List (Byte × Byte))
  | refused (r : Refusal)
  deriving DecidableEq, Repr

/-- The end of a run whose last step was made in `s` (R466): a step that faults adds no OUT event. -/
def RunEnd.ofStep (s : State) (r : Result) : RunEnd :=
  match r with
  | .next t => .stopped t
  | .fault f => .faulted f (outEvents s)
  | .refused r => .refused r

/-- Going on with a run that has not ended in a fault. -/
def RunEnd.andThen (r : RunEnd) (go : State → RunEnd) : RunEnd :=
  match r with
  | .stopped t => go t
  | .faulted f events => .faulted f events
  | .refused r => .refused r

/-- A batch of `n` steps; it ends early at HALTED or at a fault (R459). -/
def runBatch : Nat → State → RunEnd
  | 0, s => .stopped s
  | n + 1, s =>
    match s.run with
    | .halted => .stopped s
    | .running => (RunEnd.ofStep s (step s)).andThen (runBatch n)

/-- `run_until_halt()` with at most `fuel` steps: the state in HALTED, or the fault that ended the loop; none when the
steps did not suffice (R457; 93_implementation_defined.md U17). -/
def runUntilHalt : Nat → State → Option RunEnd
  | fuel, s =>
    match s.run with
    | .halted => some (.stopped s)
    | .running =>
      match fuel with
      | 0 => none
      | n + 1 =>
        match RunEnd.ofStep s (step s) with
        | .stopped t => runUntilHalt n t
        | .faulted f events => some (.faulted f events)
        | .refused r => some (.refused r)

/-- The read-only snapshot: registers, flags, PC, SP and the run state (R458), and INTE (R57, R408). -/
structure Snapshot where
  a : Byte
  b : Byte
  c : Byte
  d : Byte
  e : Byte
  h : Byte
  l : Byte
  flags : Flags
  pc : Word
  sp : Word
  inte : Bool
  run : RunState
  deriving DecidableEq, Repr

/-- Taking the snapshot; it changes nothing (R458). -/
def snapshot (s : State) : Snapshot :=
  { a := s.a, b := s.b, c := s.c, d := s.d, e := s.e, h := s.h, l := s.l
    flags := s.flags, pc := s.pc, sp := s.sp, inte := s.inte, run := s.run }

/-- The observable result of a run (R466): the snapshot, the memory image and the OUT events of a run that ended HALTED
or was stopped; the report and the OUT events before it of a run that faulted. -/
inductive Observation where
  | ended (shown : Snapshot) (mem : Memory) (events : List (Byte × Byte))
  | faulted (report : Fault) (events : List (Byte × Byte))
  | refused (r : Refusal)
  deriving DecidableEq, Repr

/-- What the host observes of a run (R466). -/
def observe (r : RunEnd) : Observation :=
  match r with
  | .stopped s => .ended (snapshot s) s.mem (outEvents s)
  | .faulted f events => .faulted f events
  | .refused r => .refused r

end Sys2Proof.Machine
end

