-- ==== Sys2Proof/Safety.lean ====
section
/-! DEFINITION. The terms claims use: the invariant every step keeps, and for every instruction form what the spec
says it may write and which addresses it accesses (10_state.md R33, R38, R53; 20_memory.md R90; 30_encoding.md R143;
60_exceptions.md R402). Nothing here gives an instruction its meaning. -/

namespace Sys2Proof.Safety

open Sys2Proof.Machine

/-- The memory holds an entry only for addresses below MEM_SIZE (R80, R82). -/
abbrev memoryInRange (s : State) : Prop := ∀ cell ∈ s.mem, cell.1 < s.params.memSize

/-- The invariant: MEM_SIZE is legal (R7), memory is in canonical form, and no byte is held at or above MEM_SIZE
(R80). -/
abbrev Inv (s : State) : Prop := s.params.wf ∧ Memory.wf s.mem = true ∧ memoryInRange s

/-- A run that keeps going or halts: the step answers a next state (R16). -/
abbrev Completes (s : State) : Prop := ∃ t, step s = .next t

/-- Which of the five flags an instruction may write. -/
structure FlagSet where
  z : Bool
  s : Bool
  p : Bool
  cy : Bool
  ac : Bool
  deriving DecidableEq, Repr

def FlagSet.none : FlagSet := { z := false, s := false, p := false, cy := false, ac := false }
def FlagSet.onlyCy : FlagSet := { z := false, s := false, p := false, cy := true, ac := false }
def FlagSet.allButCy : FlagSet := { z := true, s := true, p := true, cy := false, ac := true }
def FlagSet.all : FlagSet := { z := true, s := true, p := true, cy := true, ac := true }

/-- The flags an instruction writes, by the table of R53. -/
def flagsWritten (f : Form) : FlagSet :=
  match f with
  | .accR _ _ | .accM _ | .accI _ _ | .daa | .popPSW => .all
  | .inrR _ | .inrM | .dcrR _ | .dcrM => .allButCy
  | .dad _ | .dadSP | .rlc | .rrc | .ral | .rar | .stc | .cmc => .onlyCy
  | .cma | .inx _ | .inxSP | .dcx _ | .dcxSP
  | .movRR _ _ | .movRM _ | .movMR _ | .mviR _ _ | .mviM _ | .lxi _ _ | .lxiSP _
  | .push _ | .pushPSW | .pop _ | .xthl | .sphl
  | .call _ | .ccc _ _ | .ret | .rcc _ | .rst _
  | .lda _ | .sta _ | .ldaxB | .ldaxD | .staxB | .staxD | .lhld _ | .shld _ | .xchg
  | .jmp _ | .jcc _ _ | .pchl | .nop | .hlt | .ei | .di | .inPort _ | .outPort _ => .none

/-- The registers an instruction writes (R32, R33 and the instruction rules). -/
def regsWritten (f : Form) : List Reg :=
  match f with
  | .movRR dst _ | .movRM dst | .mviR dst _ | .inrR dst | .dcrR dst => [dst]
  | .lxi p _ | .inx p | .dcx p | .pop p => [highReg p, lowReg p]
  | .lda _ | .ldaxB | .ldaxD | .inPort _ | .rlc | .rrc | .ral | .rar | .cma | .daa | .popPSW => [.a]
  | .accR op _ | .accM op | .accI op _ => if op = .cmp then [] else [.a]
  | .lhld _ | .xthl | .dad _ | .dadSP => [.h, .l]
  | .xchg => [.h, .l, .d, .e]
  | .movMR _ | .mviM _ | .lxiSP _ | .sta _ | .staxB | .staxD | .shld _ | .cmc | .stc
  | .jmp _ | .jcc _ _ | .call _ | .ccc _ _ | .ret | .rcc _ | .rst _ | .pchl | .push _ | .pushPSW | .sphl
  | .hlt | .nop | .ei | .di | .outPort _ | .inrM | .dcrM | .inxSP | .dcxSP => []

/-- The two bytes a push writes: SP - 1 and SP - 2 (R93). -/
def pushAddrs (s : State) : List Word := [s.sp - 1, s.sp - 2]

/-- The two bytes a pop reads: SP and SP + 1 (R94). -/
def topAddrs (s : State) : List Word := [s.sp, s.sp + 1]

/-- The addresses of the bytes an instruction stores to (R90). -/
def storeAddrs (f : Form) (s : State) : List Word :=
  match f with
  | .movMR _ | .mviM _ | .inrM | .dcrM => [s.pair .hl]
  | .sta addr => [addr]
  | .staxB => [s.pair .bc]
  | .staxD => [s.pair .de]
  | .shld addr => [addr, addr + 1]
  | .push _ | .pushPSW | .call _ | .rst _ => pushAddrs s
  | .ccc cond _ => if condHolds cond s.flags then pushAddrs s else []
  | .xthl => topAddrs s
  | .movRR _ _ | .movRM _ | .mviR _ _ | .lxi _ _ | .lxiSP _ | .lda _ | .ldaxB | .ldaxD | .lhld _ | .xchg
  | .accR _ _ | .accM _ | .accI _ _ | .rlc | .rrc | .ral | .rar | .cma | .cmc | .stc | .jmp _ | .jcc _ _ | .ret
  | .rcc _ | .pchl | .pop _ | .popPSW | .sphl | .hlt | .nop | .ei | .di | .inPort _ | .outPort _ | .inrR _
  | .dcrR _ | .inx _ | .inxSP | .dcx _ | .dcxSP | .dad _ | .dadSP | .daa => []

/-- The addresses of the bytes an instruction reads after its fetch (R90). -/
def loadAddrs (f : Form) (s : State) : List Word :=
  match f with
  | .movRM _ | .accM _ | .inrM | .dcrM => [s.pair .hl]
  | .lda addr => [addr]
  | .ldaxB => [s.pair .bc]
  | .ldaxD => [s.pair .de]
  | .lhld addr => [addr, addr + 1]
  | .pop _ | .popPSW | .ret | .xthl => topAddrs s
  | .rcc cond => if condHolds cond s.flags then topAddrs s else []
  | .movRR _ _ | .movMR _ | .mviR _ _ | .mviM _ | .lxi _ _ | .lxiSP _ | .sta _ | .staxB | .staxD | .shld _ | .xchg
  | .accR _ _ | .accI _ _ | .rlc | .rrc | .ral | .rar | .cma | .cmc | .stc | .jmp _ | .jcc _ _ | .call _ | .ccc _ _
  | .rst _ | .pchl | .push _ | .pushPSW | .sphl | .hlt | .nop | .ei | .di | .inPort _ | .outPort _ | .inrR _
  | .dcrR _ | .inx _ | .inxSP | .dcx _ | .dcxSP | .dad _ | .dadSP | .daa => []

/-- Every address an instruction accesses after its fetch is in range (R402). -/
abbrev accessesInRange (f : Form) (s : State) : Prop :=
  (∀ a ∈ loadAddrs f s, s.inRange a) ∧ (∀ a ∈ storeAddrs f s, s.inRange a)

/-- The word at the top of the stack, low byte at SP and high byte at SP + 1 (R94). -/
def topWord (s : State) : Word := assemble (s.mem.read (s.sp + 1).toNat) (s.mem.read s.sp.toNat)

/-- The absolute PC an instruction's handler writes, and none where PC is the dispatcher's (R143). -/
def branchTarget (f : Form) (s : State) : Option Word :=
  match f with
  | .jmp addr | .call addr => some addr
  | .jcc cond addr | .ccc cond addr => if condHolds cond s.flags then some addr else none
  | .ret => some (topWord s)
  | .rcc cond => if condHolds cond s.flags then some (topWord s) else none
  | .rst n => some (restartVector n)
  | .pchl => some (s.pair .hl)
  | .movRR _ _ | .movRM _ | .movMR _ | .mviR _ _ | .mviM _ | .lxi _ _ | .lxiSP _ | .lda _ | .sta _ | .ldaxB | .ldaxD
  | .staxB | .staxD | .lhld _ | .shld _ | .xchg | .accR _ _ | .accM _ | .accI _ _ | .rlc | .rrc | .ral | .rar | .cma
  | .cmc | .stc | .push _ | .pushPSW | .pop _ | .popPSW | .xthl | .sphl | .hlt | .nop | .ei | .di | .inPort _
  | .outPort _ | .inrR _ | .inrM | .dcrR _ | .dcrM | .inx _ | .inxSP | .dcx _ | .dcxSP | .dad _ | .dadSP | .daa => none

/-- SP after an instruction that completes (R38). -/
def spAfter (f : Form) (s : State) : Word :=
  match f with
  | .lxiSP imm => imm
  | .inxSP => s.sp + 1
  | .dcxSP => s.sp - 1
  | .sphl => s.pair .hl
  | .push _ | .pushPSW | .call _ | .rst _ => s.sp - 2
  | .ccc cond _ => if condHolds cond s.flags then s.sp - 2 else s.sp
  | .pop _ | .popPSW | .ret => s.sp + 2
  | .rcc cond => if condHolds cond s.flags then s.sp + 2 else s.sp
  | .movRR _ _ | .movRM _ | .movMR _ | .mviR _ _ | .mviM _ | .lxi _ _ | .lda _ | .sta _ | .ldaxB | .ldaxD | .staxB
  | .staxD | .lhld _ | .shld _ | .xchg | .accR _ _ | .accM _ | .accI _ _ | .rlc | .rrc | .ral | .rar | .cma | .cmc
  | .stc | .jmp _ | .jcc _ _ | .pchl | .xthl | .hlt | .nop | .ei | .di | .inPort _ | .outPort _ | .inrR _ | .inrM
  | .dcrR _ | .dcrM | .inx _ | .dcx _ | .dad _ | .dadSP | .daa => s.sp

end Sys2Proof.Safety
end

