-- ==== Sys2Proof/Certificates/Slice0/Obligations.lean ====
section
/-! DEFINITION. The statements for the provers, each from numbered rules of spec/ (OBLIGATIONS.json names them). First
the terms they are written in, which say a result in the spec's words and not in the model's functions. -/

namespace Sys2Proof.Claims

open Sys2Proof.Machine Sys2Proof.Safety

/-- The population count of a byte is even (R43). -/
def evenOnes (v : Byte) : Bool := decide (((List.range 8).filter fun k => v.getLsbD k).length % 2 = 0)

/-- The flags that go with a result byte: Z when it is 0, S when it is 0x80 or more, P when its population count is
even (R41, R42, R43), with the given CY and AC. -/
def resultFlags (res : Byte) (cy ac : Bool) : Flags :=
  { z := decide (res = 0), s := decide (res.toNat ≥ 128), p := evenOnes res, cy := cy, ac := ac }

/-- When every address of `addrs` is in range the instruction answers the next state `t`; when one is not, it raises
`OutOfBoundsMemoryAccess` with the PC of the instruction and its opcode byte (R82, R401, R403; the byte itself is the
opcode map's, the spec's decision D14, log entry 10). -/
def RunsWithin (i : Instr) (s : State) (addrs : List Word) (t : State) : Prop :=
  ((∀ a ∈ addrs, s.inRange a) → exec i s = .next t) ∧
  ((∃ a ∈ addrs, ¬ s.inRange a) → exec i s = .fault (.outOfBoundsMemoryAccess s.pc (some (opcodeOf i))))

/-- `Mem[a]` as the model reads one byte. -/
def byteAt (s : State) (a : Word) : Byte := s.mem.read a.toNat

/-- The state with `Mem[a]` set to `v`. -/
def stored (s : State) (a : Word) (v : Byte) : State := { s with mem := s.mem.write a.toNat v }

/-- The state after `Push16(v)`: high byte at SP - 1, low byte at SP - 2, SP lower by 2 (R93). -/
def pushed (s : State) (v : Word) : State :=
  { stored (stored s (s.sp - 1) (hiByte v)) (s.sp - 2) (loByte v) with sp := s.sp - 2 }

/-- The truth of a condition over the flags, by the table of R301. -/
def condTrue (cond : Cond) (f : Flags) : Prop :=
  match cond with
  | .nz => f.z = false
  | .z => f.z = true
  | .nc => f.cy = false
  | .c => f.cy = true
  | .po => f.p = false
  | .pe => f.p = true
  | .p => f.s = false
  | .m => f.s = true

/-- Two outcomes of a step agree, next states after `f`. -/
def agreeUpTo (f : State → State) (x y : Result) : Prop :=
  match x, y with
  | .next t, .next u => f t = f u
  | .fault p, .fault q => p = q
  | .refused p, .refused q => p = q
  | _, _ => False

/-- A state with AC cleared, for comparing two states that may differ in AC. -/
def dropAc (s : State) : State := { s with flags := { s.flags with ac := false } }

/-- A state with the default host, for comparing two states that may differ in the host behind the ports. -/
def dropHost (s : State) : State := { s with portHost := .scripted [] }

/-- A state with INTE cleared, for comparing two states that may differ in INTE. -/
def dropInte (s : State) : State := { s with inte := false }

/-- The 9-bit word CY:A that RAL and RAR rotate (R285, R286). -/
def carryA (s : State) : BitVec 9 := BitVec.ofBool s.flags.cy ++ s.a

/-- The byte that holds a number below 100 as two decimal digits (R254, R253). -/
def bcd (n : Nat) : Byte := BitVec.ofNat 8 (16 * (n / 10) + n % 10)

end Sys2Proof.Claims

open Sys2Proof Sys2Proof.Machine Sys2Proof.Safety Sys2Proof.Claims

/-! ### Encoding and the step -/

/-- A few opcode bytes the source itself gives, and one row of each family (R130, R131). The others than 00, 76, C9, CD
and the aliases rest on the spec's decision D14 (log entry 10). -/
def Obligations.SpecWordsDecodeToTheirInstructions : Prop :=
  decodeTableWord 8 0x00 = some .nop ∧ decodeTableWord 8 0x76 = some .hlt ∧ decodeTableWord 8 0xC9 = some .ret ∧
  decodeTableWord 24 0x1234CD = some (.call 0x1234) ∧ decodeTableWord 8 0x08 = some .nop08 ∧
  decodeTableWord 8 0xCB = some .retCB ∧ decodeTableWord 8 0xD9 = some .retD9 ∧
  decodeTableWord 24 0x1234DD = some (.callDD 0x1234) ∧ decodeTableWord 8 0x41 = some .movBC ∧
  decodeTableWord 8 0x80 = some .addB ∧ decodeTableWord 16 0x0FE6 = some (.ani 0x0F) ∧
  decodeTableWord 16 0x01DB = some (.inPort 0x01)

/-- Decode after encode, for every instruction of the machine and every operand value. -/
def Obligations.DecodingAnEncodedInstructionGivesItBack : Prop :=
  ∀ (cb : CbAlias) (i : Instr) (rest : List Byte), i.wellFormed cb = true →
    decodeBytes cb (encode i ++ rest) = .ok (i, rest)

/-- Encode after decode: any three bytes decode to an instruction of the machine whose bytes are the opcode byte and
the operand bytes that R129's bit tests give that opcode (section 2 of 30_encoding.md; the map is R130, section 3, the
spec's decision D14, log entry 10). -/
def Obligations.EncodingADecodedInstructionGivesItsBytes : Prop :=
  ∀ (cb : CbAlias) (op b2 b3 : Byte),
    (decode cb op b2 b3).wellFormed cb = true ∧
    operandBytes (decode cb op b2 b3) = operandBytesOf cb op ∧
    encode (decode cb op b2 b3) = [op, b2, b3].take (1 + operandBytesOf cb op)

/-- R141: operand bytes the descriptor does not declare have no effect: none of the two for a one-byte instruction, not
the third byte for a two-byte instruction. -/
def Obligations.UndeclaredOperandBytesHaveNoEffect : Prop :=
  ∀ (cb : CbAlias) (op b2 b3 c2 c3 : Byte),
    (operandBytes (decode cb op b2 b3) = 0 → decode cb op c2 c3 = decode cb op b2 b3) ∧
    (operandBytes (decode cb op b2 b3) = 1 → decode cb op b2 c3 = decode cb op b2 b3)

/-- In RUNNING, with the three bytes at PC, PC + 1 and PC + 2 in range, a step is exec of the instruction they decode
to; exec itself advances PC (R140, R142). -/
def Obligations.StepRunsTheDecodedInstruction : Prop :=
  ∀ s : State, s.run = .running → s.inRange s.pc → s.inRange (s.pc + 1) → s.inRange (s.pc + 2) →
    step s = exec (decode s.params.cbAlias (byteAt s s.pc) (byteAt s (s.pc + 1)) (byteAt s (s.pc + 2))) s

/-- The fetch faults when one of its three addresses is out of range, whatever the instruction's length (D3); the
report holds PC, and the opcode byte unless it is the opcode's own address that is out of range (D21). -/
def Obligations.FetchFaultsOutsideMemory : Prop :=
  ∀ s : State, s.run = .running →
    (¬ s.inRange s.pc → step s = .fault (.outOfBoundsMemoryAccess s.pc none)) ∧
    (s.inRange s.pc → (¬ s.inRange (s.pc + 1) ∨ ¬ s.inRange (s.pc + 2)) →
      step s = .fault (.outOfBoundsMemoryAccess s.pc (some (byteAt s s.pc))))

/-- R144: a step in HALTED changes nothing and cannot fault. -/
def Obligations.HaltedStepChangesNothing : Prop :=
  ∀ s : State, s.run = .halted → step s = .next s

/-- No step is refused, and with MEM_SIZE = 65536 no step faults: every step answers a next state. -/
def Obligations.EveryStepCompletesInFullMemory : Prop :=
  (∀ (s : State) (r : Refusal), step s ≠ .refused r) ∧
  (∀ s : State, s.params.memSize = 65536 → Completes s)

/-! ### Invariants and creation -/

/-- Every step keeps the invariant: MEM_SIZE legal, memory canonical, no byte held at or above MEM_SIZE. -/
def Obligations.StepKeepsTheInvariant : Prop :=
  ∀ s t : State, Inv s → step s = .next t → Inv t

/-- The invariant holds at reset. -/
def Obligations.ResetMeetsTheInvariant : Prop := Inv State.reset

/-- The values at creation for every choice of the parameters; INTE = 0 is the spec's decision D7, and State.reset
takes the spec's defaults D1, D5, D6, D8, D18, D20 (log entries 1 to 5). -/
def Obligations.CreationGivesTheStatedValues : Prop :=
  (∀ (p : Params) (entry spInit : Word) (m : Memory) (host : PortHost),
    let s := State.create p entry spInit m host
    (∀ r : Reg, s.reg r = 0) ∧ packFlags s.flags = 0x02 ∧ s.pc = entry ∧ s.sp = spInit ∧ s.inte = false ∧
      s.run = .running ∧ s.mem = m ∧ s.params = p ∧ s.portHost = host ∧ outEvents s = []) ∧
  State.reset = State.create { memSize := 65536, cbAlias := .ret } 0x0000 0x0000 [] (.scripted []) ∧
  (∀ a : Word, byteAt State.reset a = 0x00)

/-! ### Rules over all instructions -/

/-- R58: RUN starts RUNNING, goes to HALTED by HLT and by nothing else, and nothing leaves HALTED. Beside it: INTE is
written by EI and DI only, each in its own step (R57, R364, R365). That EI is not delayed, and that nothing is injected
into HALTED, are the spec's decision D19 (log entry 12). -/
def Obligations.OnlyHltHaltsAndOnlyEiDiWriteInte : Prop :=
  (∀ (p : Params) (entry spInit : Word) (m : Memory) (host : PortHost),
    (State.create p entry spInit m host).run = .running) ∧
  (∀ (i : Instr) (s t : State), exec i s = .next t →
    t.run = (if i = .hlt then .halted else s.run) ∧
    t.inte = (if i = .ei then true else if i = .di then false else s.inte)) ∧
  (∀ s t : State, step s = .next t → s.run = .halted → t.run = .halted)

/-- R57: no step's result depends on INTE, but for INTE itself. That no step reads INTE is part of the spec's decision D19
(log entry 12). -/
def Obligations.NoStepReadsInte : Prop :=
  ∀ (s : State) (v : Bool), agreeUpTo dropInte (step s) (step { s with inte := v })

/-- AC is read only by DAA and PUSH PSW: the result of any other instruction, AC apart, does not depend on AC (R45,
R54). -/
def Obligations.OnlyDaaAndPushPswReadAc : Prop :=
  ∀ (i : Instr) (s : State) (v : Bool), formOf i ≠ .daa → formOf i ≠ .pushPSW →
    agreeUpTo dropAc (exec i s) (exec i { s with flags := { s.flags with ac := v } })

/-- R53: a flag the table does not mark as written is left exactly as it was; STC sets CY, CMC complements it, and
the logical operations clear it. That the instructions of the table's last row write no flag is the spec's decision D24
(log entry 11). -/
def Obligations.FlagsOutsideTheTableAreUntouched : Prop :=
  ∀ (i : Instr) (s t : State), exec i s = .next t →
    ((flagsWritten (formOf i)).z = false → t.flags.z = s.flags.z) ∧
    ((flagsWritten (formOf i)).s = false → t.flags.s = s.flags.s) ∧
    ((flagsWritten (formOf i)).p = false → t.flags.p = s.flags.p) ∧
    ((flagsWritten (formOf i)).cy = false → t.flags.cy = s.flags.cy) ∧
    ((flagsWritten (formOf i)).ac = false → t.flags.ac = s.flags.ac) ∧
    (formOf i = .stc → t.flags.cy = true) ∧ (formOf i = .cmc → t.flags.cy = !s.flags.cy) ∧
    (∀ op : AccOp, op = .ana ∨ op = .xra ∨ op = .ora →
      (∃ r, formOf i = .accR op r) ∨ formOf i = .accM op ∨ (∃ v, formOf i = .accI op v) → t.flags.cy = false)

/-- A register the instruction's rule does not name as written keeps its value. -/
def Obligations.RegistersNotWrittenAreUnchanged : Prop :=
  ∀ (i : Instr) (s t : State) (r : Reg), exec i s = .next t → r ∉ regsWritten (formOf i) → t.reg r = s.reg r

/-- Every byte outside the addresses the instruction stores to reads as before (R90). -/
def Obligations.BytesNotStoredToAreUnchanged : Prop :=
  ∀ (i : Instr) (s t : State) (a : Word), exec i s = .next t → a ∉ storeAddrs (formOf i) s → byteAt t a = byteAt s a

/-- R38: SP changes by the instructions that write it, as each says, and by no other. That the pair code 11 is SP in LXI,
INX and DCX is the spec's decision D15 (log entry 10). -/
def Obligations.StackPointerChangesOnlyAsStated : Prop :=
  ∀ (i : Instr) (s t : State), exec i s = .next t → t.sp = spAfter (formOf i) s

/-- The parameters are changed by nothing; only IN and OUT reach the host behind the ports: each adds one access, an IN
the byte it brought into A, an OUT the byte of A; the host itself changes by these two only (R62, R98, R99). The host as
data of State is log entry 2. -/
def Obligations.ParametersAndPortsChangeOnlyAsStated : Prop :=
  ∀ (i : Instr) (s t : State), exec i s = .next t →
    t.params = s.params ∧
    t.portLog = (match i with
      | .inPort p => s.portLog ++ [.input p t.a]
      | .outPort p => s.portLog ++ [.output p s.a]
      | _ => s.portLog) ∧
    t.portHost = (match i with
      | .inPort p => hostAfterInput s.portHost p
      | .outPort p => hostAfterOutput s.portHost p s.a
      | _ => s.portHost) ∧
    outEvents t = (match i with | .outPort p => outEvents s ++ [(p, s.a)] | _ => outEvents s)

/-- R142, R143: exactly one of handler and dispatcher writes PC, the handler its absolute target, the dispatcher
PC plus 1 plus the operand length modulo 65536; and the table's policy says which. That the sum is taken modulo 65536 is
the spec's decision D32 (log entry 8), the reading of the conditions D14 (log entry 10). -/
def Obligations.ExactlyOneWriterOfPc : Prop :=
  ∀ (i : Instr) (s t : State), exec i s = .next t →
    t.pc = (branchTarget (formOf i) s).getD (s.pc + BitVec.ofNat 16 (1 + operandBytes i)) ∧
    (pcPolicy i = .dispatcher → branchTarget (formOf i) s = none) ∧
    (pcPolicy i = .handler → branchTarget (formOf i) s ≠ none)

/-- R402, R403: an instruction completes exactly when every address it accesses is in range, and otherwise raises
`OutOfBoundsMemoryAccess` with `pc0` and its opcode byte. -/
def Obligations.InstructionsFaultExactlyOnTheirAccesses : Prop :=
  ∀ (i : Instr) (s : State),
    (accessesInRange (formOf i) s → ∃ t, exec i s = .next t) ∧
    (¬ accessesInRange (formOf i) s → exec i s = .fault (.outOfBoundsMemoryAccess s.pc (some (opcodeOf i))))

/-! ### Memory, stack, pairs and the flag byte -/

/-- R83, R84: a byte written is read back, every other byte reads as before, and neither access succeeds out of
range. -/
def Obligations.ByteAccessesReadAndWriteTheirByte : Prop :=
  ∀ (s : State) (a : Word) (v : Byte),
    (s.inRange a → memRead1 a s = some (byteAt s a) ∧
      ∃ t, memWrite1 a v s = some t ∧ (∀ b : Word, byteAt t b = if b = a then v else byteAt s b) ∧
        { t with mem := s.mem } = s) ∧
    (¬ s.inRange a → memRead1 a s = none ∧ memWrite1 a v s = none)

/-- R85, R86: a word has its low byte at `a` and its high byte at `a + 1` modulo 65536; neither access succeeds when one
of the two bytes is out of range. The wrap is the spec's decision D2 (log entry 8). -/
def Obligations.WordsAreLittleEndian : Prop :=
  ∀ (s : State) (a v : Word),
    (s.inRange a → s.inRange (a + 1) →
      memRead2 a s = some (assemble (byteAt s (a + 1)) (byteAt s a)) ∧
      ∃ t, memWrite2 a v s = some t ∧ memRead2 a t = some v ∧
        byteAt t a = loByte v ∧ byteAt t (a + 1) = hiByte v ∧
        (∀ b : Word, b ≠ a → b ≠ a + 1 → byteAt t b = byteAt s b)) ∧
    (¬ (s.inRange a ∧ s.inRange (a + 1)) → memRead2 a s = none ∧ memWrite2 a v s = none)

/-- R97: a push followed by a pop gives the word back and leaves SP at its value before the push, as operations and as
the instructions PUSH rp and POP rp; the bytes stand at SP - 1 (high) and SP - 2 (low). -/
def Obligations.PopUndoesPush : Prop :=
  (∀ (s : State) (v : Word), s.inRange (s.sp - 1) → s.inRange (s.sp - 2) →
    ∃ t, push16 v s = some t ∧ t.sp = s.sp - 2 ∧ byteAt t (s.sp - 1) = hiByte v ∧ byteAt t (s.sp - 2) = loByte v ∧
      pop16 t = some (v, { t with sp := s.sp })) ∧
  (∀ (p : Pair) (s : State), s.inRange (s.sp - 1) → s.inRange (s.sp - 2) →
    ∃ t u, exec (instrOf (.push p)) s = .next t ∧ exec (instrOf (.pop p)) t = .next u ∧
      u.pair p = s.pair p ∧ u.sp = s.sp)

/-- R35, R36, R37: a pair is (high << 8) | low; writing a word to it writes its two registers, no other, and reads
back as the word. -/
def Obligations.PairsAreTheirTwoRegisters : Prop :=
  ∀ (s : State) (p : Pair) (v : Word),
    (s.pair p).toNat = 256 * (s.reg (highReg p)).toNat + (s.reg (lowReg p)).toNat ∧
    (s.setPair p v).pair p = v ∧
    ((s.setPair p v).reg (highReg p)).toNat = v.toNat / 256 ∧
    ((s.setPair p v).reg (lowReg p)).toNat = v.toNat % 256 ∧
    (∀ r : Reg, r ≠ highReg p → r ≠ lowReg p → (s.setPair p v).reg r = s.reg r)

/-- R55: the packed byte is S Z 0 AC 0 P 1 CY, bit 7 first; unpacking it gives the five flags back. -/
def Obligations.FlagByteLayout : Prop :=
  ∀ f : Flags,
    (packFlags f).toNat = 128 * f.s.toNat + 64 * f.z.toNat + 16 * f.ac.toNat + 4 * f.p.toNat + 2 + f.cy.toNat ∧
    unpackFlags (packFlags f) = f

/-- R343: PUSH rp then POP rp, PUSH PSW then POP PSW, CALL then RET, RST then RET, and a conditional instruction whose
condition is false. In the first two laws other registers may change in between. That POP PSW ignores three bits is the
spec's decision D17, that RST pushes PC + 1 is D35 (log entry 15); the reading of the eight conditions is D14 (log entry
10), and the wrap of PC + 3 and PC + 1 D32 (log entry 8). -/
def Obligations.StackRoundTripLaws : Prop :=
  (∀ (p : Pair) (s t u : State), exec (instrOf (.push p)) s = .next t →
    u.sp = t.sp → u.mem = t.mem → u.params = t.params →
    ∃ v, exec (instrOf (.pop p)) u = .next v ∧ v.pair p = s.pair p ∧ v.sp = s.sp) ∧
  (∀ s t u : State, exec .pushPSW s = .next t → u.sp = t.sp → u.mem = t.mem → u.params = t.params →
    ∃ v, exec .popPSW u = .next v ∧ v.a = s.a ∧ v.flags = s.flags ∧ v.sp = s.sp) ∧
  (∀ (addr : Word) (s t : State), exec (.call addr) s = .next t →
    ∃ u, exec .ret t = .next u ∧ u.pc = s.pc + 3 ∧ u.sp = s.sp) ∧
  (∀ (n : RstNum) (s t : State), exec (instrOf (.rst n)) s = .next t →
    ∃ u, exec .ret t = .next u ∧ u.pc = s.pc + 1 ∧ u.sp = s.sp) ∧
  (∀ (cond : Cond) (addr : Word) (s : State), ¬ condTrue cond s.flags →
    exec (instrOf (.jcc cond addr)) s = .next { s with pc := s.pc + 3 } ∧
    exec (instrOf (.ccc cond addr)) s = .next { s with pc := s.pc + 3 } ∧
    exec (instrOf (.rcc cond)) s = .next { s with pc := s.pc + 1 } ∧
    exec .nop s = .next { s with pc := s.pc + 1 })

/-! ### The host's operations -/

/-- `load` writes its bytes at `start`, `start + 1`, … and no other byte, and is refused when it would pass MEM_SIZE
(the spec's decision D8). -/
def Obligations.LoadWritesItsBytesOrIsRefused : Prop :=
  ∀ (bytes : List Byte) (start : Word) (s : State),
    (start.toNat + bytes.length ≤ s.params.memSize → ∃ t, load bytes start s = .next t ∧ { t with mem := s.mem } = s ∧
      ∀ a : Nat, t.mem.read a =
        if start.toNat ≤ a ∧ a < start.toNat + bytes.length then bytes.getD (a - start.toNat) 0 else s.mem.read a) ∧
    (start.toNat + bytes.length > s.params.memSize → load bytes start s = .refused .misconfiguredLoad)

/-- R459: a batch of `m + n` steps is a batch of `m` steps and then one of `n`; a batch of one step is `step`, with the OUT
events so far beside a fault. -/
def Obligations.BatchesOfStepsCompose : Prop :=
  (∀ (m n : Nat) (s : State), runBatch (m + n) s =
    (match runBatch m s with
     | .stopped t => runBatch n t
     | .faulted f events => .faulted f events
     | .refused r => .refused r)) ∧
  (∀ s : State, runBatch 1 s =
    (match step s with
     | .next t => .stopped t
     | .fault f => .faulted f (outEvents s)
     | .refused r => .refused r))

/-- R457: with a bound on the steps, `run_until_halt()` returns exactly when the batch of so many steps has reached
HALTED or a fault, and answers that; called in HALTED it returns at once. The bound is the model's choice (log entry 16;
R457 gives none). -/
def Obligations.RunUntilHaltEndsInHaltedOrFault : Prop :=
  (∀ (fuel : Nat) (s : State) (x : RunEnd), runUntilHalt fuel s = some x ↔
    runBatch fuel s = x ∧ ((∃ t, x = .stopped t ∧ t.run = .halted) ∨ (∃ f events, x = .faulted f events))) ∧
  (∀ (fuel : Nat) (s : State), s.run = .halted → runUntilHalt fuel s = some (.stopped s))

/-! ### Data transfer -/

/-- MOV r1,r2; MOV r,M; MOV M,r (R201, R202, R203). The encodings are the spec's decision D14 and the operand order D28
(log entry 10); that the forms with M write no flag is D24 (log entry 11). -/
def Obligations.MovCopiesAByte : Prop :=
  ∀ s : State,
    (∀ dst src : Reg,
      encode (instrOf (.movRR dst src)) = [(0b01#2 ++ regCode dst ++ regCode src : Byte)] ∧
      exec (instrOf (.movRR dst src)) s = .next { s.setReg dst (s.reg src) with pc := s.pc + 1 }) ∧
    (∀ dst : Reg,
      encode (instrOf (.movRM dst)) = [(0b01#2 ++ regCode dst ++ 0b110#3 : Byte)] ∧
      RunsWithin (instrOf (.movRM dst)) s [s.pair .hl]
        { s.setReg dst (byteAt s (s.pair .hl)) with pc := s.pc + 1 }) ∧
    (∀ src : Reg,
      encode (instrOf (.movMR src)) = [(0b01110#5 ++ regCode src : Byte)] ∧
      RunsWithin (instrOf (.movMR src)) s [s.pair .hl] { stored s (s.pair .hl) (s.reg src) with pc := s.pc + 1 })

/-- MVI r,d8; MVI M,d8; LXI rp,d16 for BC, DE and HL (R204 to R206): the third byte goes to the high register. The
encodings are the spec's decision D14 (log entry 10). -/
def Obligations.ImmediateLoadsWriteTheImmediate : Prop :=
  ∀ s : State,
    (∀ (dst : Reg) (imm : Byte),
      encode (instrOf (.mviR dst imm)) = [(0b00#2 ++ regCode dst ++ 0b110#3 : Byte), imm] ∧
      exec (instrOf (.mviR dst imm)) s = .next { s.setReg dst imm with pc := s.pc + 2 }) ∧
    (∀ imm : Byte, encode (.mviM imm) = [0x36, imm] ∧
      RunsWithin (.mviM imm) s [s.pair .hl] { stored s (s.pair .hl) imm with pc := s.pc + 2 }) ∧
    (∀ (p : Pair) (b2 b3 : Byte),
      encode (instrOf (.lxi p (assemble b3 b2))) = [(0b00#2 ++ pairCode p ++ 0b0001#4 : Byte), b2, b3] ∧
      exec (instrOf (.lxi p (assemble b3 b2))) s =
        .next { (s.setReg (highReg p) b3).setReg (lowReg p) b2 with pc := s.pc + 3 })

/-- LDA, STA, LDAX B and D, STAX B and D: one byte between A and memory (R208 to R213). The encodings are the spec's
decision D14 (log entry 10); that none writes a flag is D24 (log entry 11). -/
def Obligations.AccumulatorLoadsAndStoresMoveOneByte : Prop :=
  ∀ s : State,
    (∀ b2 b3 : Byte, encode (.lda (assemble b3 b2)) = [0x3A, b2, b3] ∧ encode (.sta (assemble b3 b2)) = [0x32, b2, b3]) ∧
    (∀ addr : Word,
      RunsWithin (.lda addr) s [addr] { s with a := byteAt s addr, pc := s.pc + 3 } ∧
      RunsWithin (.sta addr) s [addr] { stored s addr s.a with pc := s.pc + 3 }) ∧
    encode .ldaxB = [0x0A] ∧
    RunsWithin .ldaxB s [s.pair .bc] { s with a := byteAt s (s.pair .bc), pc := s.pc + 1 } ∧
    encode .ldaxD = [0x1A] ∧
    RunsWithin .ldaxD s [s.pair .de] { s with a := byteAt s (s.pair .de), pc := s.pc + 1 } ∧
    encode .staxB = [0x02] ∧ RunsWithin .staxB s [s.pair .bc] { stored s (s.pair .bc) s.a with pc := s.pc + 1 } ∧
    encode .staxD = [0x12] ∧ RunsWithin .staxD s [s.pair .de] { stored s (s.pair .de) s.a with pc := s.pc + 1 }

/-- LHLD and SHLD: L with the byte at `addr`, H with the byte at `addr + 1` modulo 65536 (R214, R215). The encodings are
the spec's decision D14 (log entry 10), the wrap of `addr + 1` D2 (log entry 8), and that neither writes a flag D24 (log
entry 11). -/
def Obligations.LhldAndShldMoveHl : Prop :=
  ∀ s : State,
    (∀ b2 b3 : Byte, encode (.lhld (assemble b3 b2)) = [0x2A, b2, b3] ∧
      encode (.shld (assemble b3 b2)) = [0x22, b2, b3]) ∧
    (∀ addr : Word,
      RunsWithin (.lhld addr) s [addr, addr + 1]
        { s with l := byteAt s addr, h := byteAt s (addr + 1), pc := s.pc + 3 } ∧
      RunsWithin (.shld addr) s [addr, addr + 1]
        { stored (stored s addr s.l) (addr + 1) s.h with pc := s.pc + 3 })

/-- XCHG (R216), and two of them restore both pairs. The encoding EB is the spec's decision D14 (log entry 10); that it
writes no flag is D24 (log entry 11). -/
def Obligations.XchgSwapsHlAndDe : Prop :=
  ∀ s : State, encode .xchg = [0xEB] ∧
    exec .xchg s = .next { s with h := s.d, l := s.e, d := s.h, e := s.l, pc := s.pc + 1 } ∧
    (∀ t : State, exec .xchg s = .next t →
      ∃ u, exec .xchg t = .next u ∧ u.pair .hl = s.pair .hl ∧ u.pair .de = s.pair .de)

/-! ### Arithmetic -/

/-- ADD r, ADD M, ADI (R231 to R233): the sum modulo 256; CY iff the sum is above 255, AC iff the sum of the low
nibbles is above 15. The encodings are the spec's decision D14 (log entry 10). -/
def Obligations.AddComputesTheSumAndAllFlags : Prop :=
  ∀ s : State,
    let after (v : Byte) : State :=
      { s with
        a := s.a + v
        flags := resultFlags (s.a + v) (decide (s.a.toNat + v.toNat > 255))
          (decide (s.a.toNat % 16 + v.toNat % 16 > 15)) }
    (∀ r : Reg, encode (instrOf (.accR .add r)) = [(0b10000#5 ++ regCode r : Byte)] ∧
      exec (instrOf (.accR .add r)) s = .next { after (s.reg r) with pc := s.pc + 1 }) ∧
    encode .addM = [0x86] ∧
    RunsWithin .addM s [s.pair .hl] { after (byteAt s (s.pair .hl)) with pc := s.pc + 1 } ∧
    (∀ imm : Byte, encode (.adi imm) = [0xC6, imm] ∧ exec (.adi imm) s = .next { after imm with pc := s.pc + 2 })

/-- ADC and SBB with their M and immediate forms (R234 to R236, R240 to R242). That the incoming CY counts in CY and in
AC, and the polarity of AC after a subtraction, are the spec's decisions D9 and D10. -/
def Obligations.AdcAndSbbUseTheIncomingCarry : Prop :=
  ∀ s : State,
    let c : Nat := s.flags.cy.toNat
    let plus (v : Byte) : State :=
      { s with
        a := s.a + v + BitVec.ofNat 8 c
        flags := resultFlags (s.a + v + BitVec.ofNat 8 c) (decide (s.a.toNat + v.toNat + c > 255))
          (decide (s.a.toNat % 16 + v.toNat % 16 + c > 15)) }
    let minus (v : Byte) : State :=
      { s with
        a := s.a - v - BitVec.ofNat 8 c
        flags := resultFlags (s.a - v - BitVec.ofNat 8 c) (decide (s.a.toNat < v.toNat + c))
          (decide (v.toNat % 16 + c ≤ s.a.toNat % 16)) }
    (∀ r : Reg,
      exec (instrOf (.accR .adc r)) s = .next { plus (s.reg r) with pc := s.pc + 1 } ∧
      exec (instrOf (.accR .sbb r)) s = .next { minus (s.reg r) with pc := s.pc + 1 }) ∧
    RunsWithin .adcM s [s.pair .hl] { plus (byteAt s (s.pair .hl)) with pc := s.pc + 1 } ∧
    RunsWithin .sbbM s [s.pair .hl] { minus (byteAt s (s.pair .hl)) with pc := s.pc + 1 } ∧
    (∀ imm : Byte,
      exec (.aci imm) s = .next { plus imm with pc := s.pc + 2 } ∧
      exec (.sbi imm) s = .next { minus imm with pc := s.pc + 2 })

/-- SUB r, SUB M, SUI (R237 to R239): CY iff a borrow occurred; AC iff no borrow out of the low nibble, which is the
spec's decision D10. -/
def Obligations.SubComputesTheDifferenceAndAllFlags : Prop :=
  ∀ s : State,
    let after (v : Byte) : State :=
      { s with
        a := s.a - v
        flags := resultFlags (s.a - v) (decide (s.a.toNat < v.toNat)) (decide (v.toNat % 16 ≤ s.a.toNat % 16)) }
    (∀ r : Reg, exec (instrOf (.accR .sub r)) s = .next { after (s.reg r) with pc := s.pc + 1 }) ∧
    RunsWithin .subM s [s.pair .hl] { after (byteAt s (s.pair .hl)) with pc := s.pc + 1 } ∧
    (∀ imm : Byte, exec (.sui imm) s = .next { after imm with pc := s.pc + 2 })

/-- INR and DCR on a register and on M (R243 to R246): CY untouched. AC after DCR is the spec's decision D10. -/
def Obligations.InrAndDcrLeaveCarry : Prop :=
  ∀ s : State,
    let up (v : Byte) : Flags := resultFlags (v + 1) s.flags.cy (decide (v.toNat % 16 = 15))
    let down (v : Byte) : Flags := resultFlags (v - 1) s.flags.cy (decide (v.toNat % 16 ≠ 0))
    (∀ r : Reg,
      exec (instrOf (.inrR r)) s =
        .next { s.setReg r (s.reg r + 1) with flags := up (s.reg r), pc := s.pc + 1 } ∧
      exec (instrOf (.dcrR r)) s =
        .next { s.setReg r (s.reg r - 1) with flags := down (s.reg r), pc := s.pc + 1 }) ∧
    (let v := byteAt s (s.pair .hl)
     RunsWithin .inrM s [s.pair .hl] { stored s (s.pair .hl) (v + 1) with flags := up v, pc := s.pc + 1 } ∧
     RunsWithin .dcrM s [s.pair .hl] { stored s (s.pair .hl) (v - 1) with flags := down v, pc := s.pc + 1 })

/-- INX and DCX on BC, DE and HL (R247, R249): modulo 65536 and no flag. The encodings are the spec's decision D14 (log
entry 10); SP has its own statement below. -/
def Obligations.InxAndDcxStepAPairWithoutFlags : Prop :=
  ∀ (p : Pair) (s : State),
    encode (instrOf (.inx p)) = [(0b00#2 ++ pairCode p ++ 0b0011#4 : Byte)] ∧
    exec (instrOf (.inx p)) s = .next { s.setPair p (s.pair p + 1) with pc := s.pc + 1 } ∧
    encode (instrOf (.dcx p)) = [(0b00#2 ++ pairCode p ++ 0b1011#4 : Byte)] ∧
    exec (instrOf (.dcx p)) s = .next { s.setPair p (s.pair p - 1) with pc := s.pc + 1 }

/-- DAD on BC, DE and HL (R251): HL modulo 65536, CY from the carry out of bit 15, no other flag. The encoding is the
spec's decision D14 (log entry 10); SP has its own statement below. -/
def Obligations.DadAddsIntoHlAndWritesOnlyCarry : Prop :=
  ∀ (p : Pair) (s : State),
    encode (instrOf (.dad p)) = [(0b00#2 ++ pairCode p ++ 0b1001#4 : Byte)] ∧
    exec (instrOf (.dad p)) s = .next
      { s.setPair .hl (s.pair .hl + s.pair p) with
        flags := { s.flags with cy := decide ((s.pair .hl).toNat + (s.pair p).toNat > 65535) }, pc := s.pc + 1 }

/-- LXI SP, INX SP, DCX SP and DAD SP: the register-pair code 11 names SP in these four, which is the spec's decision
D15, and the encodings are D14 (log entry 10). -/
def Obligations.SpIsTheFourthPairOfLxiInxDcxDad : Prop :=
  ∀ s : State,
    (∀ b2 b3 : Byte, encode (.lxiSP (assemble b3 b2)) = [0x31, b2, b3] ∧
      exec (.lxiSP (assemble b3 b2)) s = .next { s with sp := assemble b3 b2, pc := s.pc + 3 }) ∧
    encode .inxSP = [0x33] ∧ exec .inxSP s = .next { s with sp := s.sp + 1, pc := s.pc + 1 } ∧
    encode .dcxSP = [0x3B] ∧ exec .dcxSP s = .next { s with sp := s.sp - 1, pc := s.pc + 1 } ∧
    encode .dadSP = [0x39] ∧
    exec .dadSP s = .next
      { s.setPair .hl (s.pair .hl + s.sp) with
        flags := { s.flags with cy := decide ((s.pair .hl).toNat + s.sp.toNat > 65535) }, pc := s.pc + 1 }

/-- DAA (R253, the spec's decision D12): 6 to the low digit when it is above 9 or AC is set, 6 to the high digit when A
is above 0x99 or CY is set; CY is never cleared. -/
def Obligations.DaaAppliesTheDecimalCorrection : Prop :=
  ∀ s : State,
    let low : Bool := decide (s.a.toNat % 16 > 9) || s.flags.ac
    let high : Bool := decide (s.a.toNat > 0x99) || s.flags.cy
    let res : Byte := s.a + (if low then 0x06 else 0x00) + (if high then 0x60 else 0x00)
    exec .daa s = .next
      { s with
        a := res
        flags := resultFlags res high (decide (s.a.toNat % 16 > 9))
        pc := s.pc + 1 }

/-- ADC r then DAA adds two-digit decimal numbers with the incoming carry: the digits of the sum modulo 100, and CY
when it passes 99 (a consequence of R234 and R253 under D9 and D12). -/
def Obligations.AdcThenDaaAddsDecimalNumbers : Prop :=
  ∀ (s t : State) (r : Reg) (x y : Nat), x < 100 → y < 100 → s.a = bcd x → s.reg r = bcd y →
    exec (instrOf (.accR .adc r)) s = .next t →
    ∃ u, exec .daa t = .next u ∧ u.a = bcd ((x + y + s.flags.cy.toNat) % 100) ∧
      u.flags.cy = decide (x + y + s.flags.cy.toNat > 99)

/-! ### Logical -/

/-- ANA r, ANA M, ANI (R271 to R273): CY = 0; AC = bit 3 of (A | v) is the spec's decision D11. -/
def Obligations.AndClearsCarryAndSetsAcFromBitThree : Prop :=
  ∀ s : State,
    let after (v : Byte) : State :=
      { s with a := s.a &&& v, flags := resultFlags (s.a &&& v) false (decide ((s.a ||| v).toNat / 8 % 2 = 1)) }
    (∀ r : Reg, exec (instrOf (.accR .ana r)) s = .next { after (s.reg r) with pc := s.pc + 1 }) ∧
    RunsWithin .anaM s [s.pair .hl] { after (byteAt s (s.pair .hl)) with pc := s.pc + 1 } ∧
    (∀ imm : Byte, exec (.ani imm) s = .next { after imm with pc := s.pc + 2 })

/-- XRA, ORA with their M and immediate forms (R274 to R279): CY = 0, and AC = 0, which is the spec's decision D11. -/
def Obligations.XorAndOrClearCarryAndAc : Prop :=
  ∀ s : State,
    let after (res : Byte) : State := { s with a := res, flags := resultFlags res false false }
    (∀ r : Reg,
      exec (instrOf (.accR .xra r)) s = .next { after (s.a ^^^ s.reg r) with pc := s.pc + 1 } ∧
      exec (instrOf (.accR .ora r)) s = .next { after (s.a ||| s.reg r) with pc := s.pc + 1 }) ∧
    RunsWithin .xraM s [s.pair .hl] { after (s.a ^^^ byteAt s (s.pair .hl)) with pc := s.pc + 1 } ∧
    RunsWithin .oraM s [s.pair .hl] { after (s.a ||| byteAt s (s.pair .hl)) with pc := s.pc + 1 } ∧
    (∀ imm : Byte,
      exec (.xri imm) s = .next { after (s.a ^^^ imm) with pc := s.pc + 2 } ∧
      exec (.ori imm) s = .next { after (s.a ||| imm) with pc := s.pc + 2 })

/-- CMP r, CMP M, CPI (R280 to R282): the flags of the subtraction, A and memory not written, the incoming CY ignored.
AC is the spec's decision D10. -/
def Obligations.CompareWritesOnlyTheFlags : Prop :=
  ∀ s : State,
    let after (v : Byte) : State :=
      { s with
        flags :=
          { z := decide (s.a = v), s := decide ((s.a - v).toNat ≥ 128), p := evenOnes (s.a - v)
            cy := decide (s.a.toNat < v.toNat), ac := decide (v.toNat % 16 ≤ s.a.toNat % 16) } }
    (∀ r : Reg, exec (instrOf (.accR .cmp r)) s = .next { after (s.reg r) with pc := s.pc + 1 }) ∧
    RunsWithin .cmpM s [s.pair .hl] { after (byteAt s (s.pair .hl)) with pc := s.pc + 1 } ∧
    (∀ imm : Byte, exec (.cpi imm) s = .next { after imm with pc := s.pc + 2 })

/-- RLC, RRC rotate the eight bits of A and copy the wrapped bit into CY; RAL, RAR rotate the nine bits CY:A (R283 to
R286). The split of the four is the spec's decision D13. -/
def Obligations.RotatesMoveOneBit : Prop :=
  ∀ s : State,
    exec .rlc s = .next
      { s with a := s.a.rotateLeft 1, flags := { s.flags with cy := s.a.getLsbD 7 }, pc := s.pc + 1 } ∧
    exec .rrc s = .next
      { s with a := s.a.rotateRight 1, flags := { s.flags with cy := s.a.getLsbD 0 }, pc := s.pc + 1 } ∧
    exec .ral s = .next
      { s with
        a := ((carryA s).rotateLeft 1).setWidth 8
        flags := { s.flags with cy := ((carryA s).rotateLeft 1).getLsbD 8 }, pc := s.pc + 1 } ∧
    exec .rar s = .next
      { s with
        a := ((carryA s).rotateRight 1).setWidth 8
        flags := { s.flags with cy := ((carryA s).rotateRight 1).getLsbD 8 }, pc := s.pc + 1 }

/-- CMA, CMC, STC (R287 to R289). The encodings are the spec's decision D14 (log entry 10). -/
def Obligations.ComplementsAndSetCarry : Prop :=
  ∀ s : State,
    encode .cma = [0x2F] ∧ exec .cma s = .next { s with a := ~~~ s.a, pc := s.pc + 1 } ∧
    encode .cmc = [0x3F] ∧
    exec .cmc s = .next { s with flags := { s.flags with cy := !s.flags.cy }, pc := s.pc + 1 } ∧
    encode .stc = [0x37] ∧ exec .stc s = .next { s with flags := { s.flags with cy := true }, pc := s.pc + 1 }

/-! ### Branches and the stack -/

/-- JMP, PCHL and the eight conditional jumps (R302 to R311, R333). The encodings, the condition codes and the reading of
each condition (R301) are the spec's decision D14 (log entry 10); that no flag is written is D24 (log entry 11); the
wrap of PC + 3 is D32 (log entry 8). -/
def Obligations.JumpsSetPcWhenTaken : Prop :=
  ∀ s : State,
    (∀ b2 b3 : Byte, encode (.jmp (assemble b3 b2)) = [0xC3, b2, b3]) ∧
    (∀ addr : Word, exec (.jmp addr) s = .next { s with pc := addr }) ∧
    encode .pchl = [0xE9] ∧ exec .pchl s = .next { s with pc := s.pair .hl } ∧
    (∀ (cond : Cond) (b2 b3 : Byte),
      encode (instrOf (.jcc cond (assemble b3 b2))) = [(0b11#2 ++ condCode cond ++ 0b010#3 : Byte), b2, b3]) ∧
    (∀ (cond : Cond) (addr : Word),
      (condTrue cond s.flags → exec (instrOf (.jcc cond addr)) s = .next { s with pc := addr }) ∧
      (¬ condTrue cond s.flags → exec (instrOf (.jcc cond addr)) s = .next { s with pc := s.pc + 3 }))

/-- CALL, its alias opcodes DD, ED, FD, and the eight conditional calls (R312 to R321, R342): the return address is
PC + 3; a call not taken accesses no stack byte. CD, DD, ED and FD are the source's; the conditional encodings, the
condition codes and their reading are the spec's decision D14 (log entry 10), the wraps of SP and PC D2 and D32 (log
entry 8). -/
def Obligations.CallsPushTheReturnAddress : Prop :=
  ∀ s : State,
    (∀ b2 b3 : Byte,
      encode (.call (assemble b3 b2)) = [0xCD, b2, b3] ∧ encode (.callDD (assemble b3 b2)) = [0xDD, b2, b3] ∧
      encode (.callED (assemble b3 b2)) = [0xED, b2, b3] ∧ encode (.callFD (assemble b3 b2)) = [0xFD, b2, b3]) ∧
    (∀ (addr : Word) (i : Instr), i ∈ [.call addr, .callDD addr, .callED addr, .callFD addr] →
      RunsWithin i s [s.sp - 1, s.sp - 2] { pushed s (s.pc + 3) with pc := addr }) ∧
    (∀ (cond : Cond) (b2 b3 : Byte),
      encode (instrOf (.ccc cond (assemble b3 b2))) = [(0b11#2 ++ condCode cond ++ 0b100#3 : Byte), b2, b3]) ∧
    (∀ (cond : Cond) (addr : Word),
      (condTrue cond s.flags →
        RunsWithin (instrOf (.ccc cond addr)) s [s.sp - 1, s.sp - 2] { pushed s (s.pc + 3) with pc := addr }) ∧
      (¬ condTrue cond s.flags → exec (instrOf (.ccc cond addr)) s = .next { s with pc := s.pc + 3 }))

/-- RET, its alias opcode D9, and the eight conditional returns (R322 to R331, R341): a return not taken accesses no
stack byte. C9 and D9 are the source's; the conditional encodings, the condition codes and their reading are the spec's
decision D14 (log entry 10), the wraps of SP and PC D2 and D32 (log entry 8). -/
def Obligations.ReturnsPopPc : Prop :=
  ∀ s : State,
    encode .ret = [0xC9] ∧ encode .retD9 = [0xD9] ∧
    (∀ i : Instr, i ∈ [.ret, .retD9] →
      RunsWithin i s [s.sp, s.sp + 1]
        { s with sp := s.sp + 2, pc := assemble (byteAt s (s.sp + 1)) (byteAt s s.sp) }) ∧
    (∀ cond : Cond,
      encode (instrOf (.rcc cond)) = [(0b11#2 ++ condCode cond ++ 0b000#3 : Byte)] ∧
      (condTrue cond s.flags →
        RunsWithin (instrOf (.rcc cond)) s [s.sp, s.sp + 1]
          { s with sp := s.sp + 2, pc := assemble (byteAt s (s.sp + 1)) (byteAt s s.sp) }) ∧
      (¬ condTrue cond s.flags → exec (instrOf (.rcc cond)) s = .next { s with pc := s.pc + 1 }))

/-- Opcode 0xCB (R340): with CB_ALIAS = RET it is one byte and a return, with CB_ALIAS = JMP three bytes and a jump. The
choice is the spec's decision D20 (log entries 1 and 13). -/
def Obligations.OpcodeCbFollowsItsParameter : Prop :=
  ∀ s : State,
    (∀ b2 b3 : Byte, decode .ret 0xCB b2 b3 = .retCB ∧ decode .jmp 0xCB b2 b3 = .jmpCB (assemble b3 b2)) ∧
    encode .retCB = [0xCB] ∧
    RunsWithin .retCB s [s.sp, s.sp + 1]
      { s with sp := s.sp + 2, pc := assemble (byteAt s (s.sp + 1)) (byteAt s s.sp) } ∧
    (∀ addr : Word, exec (.jmpCB addr) s = .next { s with pc := addr })

/-- RST n (R332): pushes PC + 1, the spec's decision D35, and goes to 8 * n; INTE is not touched (R423). The
encoding is the spec's decision D14 (log entry 10), the wraps of SP and PC D2 and D32 (log entry 8). -/
def Obligations.RstCallsTheFixedVector : Prop :=
  ∀ (n : RstNum) (s : State),
    encode (instrOf (.rst n)) = [(0b11#2 ++ rstCode n ++ 0b111#3 : Byte)] ∧
    RunsWithin (instrOf (.rst n)) s [s.sp - 1, s.sp - 2]
      { pushed s (s.pc + 1) with pc := BitVec.ofNat 16 (8 * (rstCode n).toNat) }

/-- PUSH rp and POP rp for BC, DE and HL, and SPHL (R334, R336, R339): the high register at SP - 1, the low register
at SP - 2. PSW has its own statement below. The encodings are the spec's decision D14 (log entry 10), the wraps of SP D2
(log entry 8). -/
def Obligations.PushAndPopMoveAPairAndSphlLoadsSp : Prop :=
  ∀ s : State,
    (∀ p : Pair,
      encode (instrOf (.push p)) = [(0b11#2 ++ pairCode p ++ 0b0101#4 : Byte)] ∧
      RunsWithin (instrOf (.push p)) s [s.sp - 1, s.sp - 2]
        { stored (stored s (s.sp - 1) (s.reg (highReg p))) (s.sp - 2) (s.reg (lowReg p)) with
          sp := s.sp - 2, pc := s.pc + 1 } ∧
      encode (instrOf (.pop p)) = [(0b11#2 ++ pairCode p ++ 0b0001#4 : Byte)] ∧
      RunsWithin (instrOf (.pop p)) s [s.sp, s.sp + 1]
        { (s.setReg (highReg p) (byteAt s (s.sp + 1))).setReg (lowReg p) (byteAt s s.sp) with
          sp := s.sp + 2, pc := s.pc + 1 }) ∧
    encode .sphl = [0xF9] ∧ exec .sphl s = .next { s with sp := s.pair .hl, pc := s.pc + 1 }

/-- PUSH PSW, POP PSW and XTHL. That A is the high half of the PSW is the spec's decision D16; that POP PSW ignores bits
1, 3 and 5 is D17; that XTHL pairs L with the byte at SP and H with the byte at SP + 1 is D25 (log entry 15). -/
def Obligations.PswAndXthlMoveTheTopOfTheStack : Prop :=
  (∀ s : State,
    RunsWithin .pushPSW s [s.sp - 1, s.sp - 2]
      { stored (stored s (s.sp - 1) s.a) (s.sp - 2) (packFlags s.flags) with sp := s.sp - 2, pc := s.pc + 1 } ∧
    (let b := byteAt s s.sp
     RunsWithin .popPSW s [s.sp, s.sp + 1]
      { s with
        a := byteAt s (s.sp + 1)
        flags := { s := b.getLsbD 7, z := b.getLsbD 6, ac := b.getLsbD 4, p := b.getLsbD 2, cy := b.getLsbD 0 }
        sp := s.sp + 2, pc := s.pc + 1 }) ∧
    RunsWithin .xthl s [s.sp, s.sp + 1]
      { stored (stored s s.sp s.l) (s.sp + 1) s.h with
        l := byteAt s s.sp, h := byteAt s (s.sp + 1), pc := s.pc + 1 }) ∧
  (∀ b : Byte, packFlags (unpackFlags b) = (b &&& 0xD5) ||| 0x02)

/-! ### Control -/

/-- HLT, NOP and the seven NOP aliases (R361 to R363). -/
def Obligations.HltHaltsAndNopsOnlyAdvance : Prop :=
  ∀ s : State,
    encode .hlt = [0x76] ∧ exec .hlt s = .next { s with run := .halted, pc := s.pc + 1 } ∧
    (∀ t : State, exec .hlt s = .next t → step t = .next t) ∧
    encode .nop = [0x00] ∧
    [encode .nop08, encode .nop10, encode .nop18, encode .nop20, encode .nop28, encode .nop30, encode .nop38] =
      [[0x08], [0x10], [0x18], [0x20], [0x28], [0x30], [0x38]] ∧
    (∀ i : Instr, i ∈ .nop :: nopAliases → exec i s = .next { s with pc := s.pc + 1 })

/-- EI and DI (R364, R365): INTE is written by the instruction itself; that EI is not delayed is the spec's decision
D19. -/
def Obligations.EiAndDiWriteInte : Prop :=
  ∀ s : State,
    exec .ei s = .next { s with inte := true, pc := s.pc + 1 } ∧
    exec .di s = .next { s with inte := false, pc := s.pc + 1 }

/-- IN and OUT (R366, R367): IN brings into A the byte the host chooses for that port, OUT hands (port, A) to the host; no
flag and nothing else changes (the spec's decision D33, log entry 15). What the host chooses is D18 in the form of log
entry 2: one byte a port for ever; the table that OUT stores into; a free value, of which the statement says no more than
that it is for this port; the first byte listed for the port, and 0x00 when none is listed, which is the default host. -/
def Obligations.InReadsAndOutWritesAPort : Prop :=
  ∀ (s : State) (port : Byte),
    let received (v : Byte) : State := { s with a := v, portLog := s.portLog ++ [.input port v], pc := s.pc + 2 }
    let sent : State := { s with portLog := s.portLog ++ [.output port s.a], pc := s.pc + 2 }
    (∀ bytes : PortTable, s.portHost = .fixed bytes →
      exec (.inPort port) s = .next (received (bytes[port.toNat]'port.isLt)) ∧ exec (.outPort port) s = .next sent) ∧
    (∀ bytes : PortTable, s.portHost = .table bytes →
      exec (.inPort port) s = .next (received (bytes[port.toNat]'port.isLt)) ∧
      exec (.outPort port) s = .next { sent with portHost := .table (bytes.set port.toNat s.a port.isLt) }) ∧
    (∀ n : Nat, s.portHost = .free n →
      exec (.inPort port) s = .next (received (Config.hostPortByte n s.portLog port)) ∧
      exec (.outPort port) s = .next sent) ∧
    (∀ answers : List (Byte × Byte), s.portHost = .scripted answers →
      ((∀ x ∈ answers, x.1 ≠ port) → exec (.inPort port) s = .next (received 0x00)) ∧
      (∀ (earlier later : List (Byte × Byte)) (v : Byte), answers = earlier ++ (port, v) :: later →
        (∀ x ∈ earlier, x.1 ≠ port) →
        exec (.inPort port) s = .next { received v with portHost := .scripted (earlier ++ later) }) ∧
      exec (.outPort port) s = .next sent)

/-! ### The end of a run -/

/-- R466: a run that is stopped or HALTED shows the snapshot, memory and the OUT events; a batch that faults reports the
fault of the step that raised it and the OUT events of the state before that step, the events before it; no later step
takes an event back. And the host matters only by its answers (R16, R466): a step with another host that answers every
port alike has the same outcome, the host itself apart. -/
def Obligations.RunsShowTheirOutEventsAndTheHostMattersByItsAnswers : Prop :=
  (∀ (n : Nat) (s t : State), runBatch n s = .stopped t →
    observe (runBatch n s) = .ended (snapshot t) t.mem (outEvents t) ∧ ∃ more, outEvents t = outEvents s ++ more) ∧
  (∀ (n : Nat) (s : State) (f : Fault) (events : List (Byte × Byte)),
    observe (runBatch n s) = .faulted f events ↔
      ∃ (m : Nat) (t : State), m < n ∧ runBatch m s = .stopped t ∧ step t = .fault f ∧ events = outEvents t) ∧
  (∀ (s : State) (host : PortHost), (∀ p : Byte, hostAnswer host s.portLog p = hostAnswer s.portHost s.portLog p) →
    agreeUpTo dropHost (step s) (step { s with portHost := host }))
end

