-- ==== Sys2Proof/Laws/Memory.lean ====
section
/-! SUPPORT. Memory as data: what each operation leaves to read, and that each keeps the canonical form. -/

namespace Sys2Proof.Machine

@[simp] theorem Memory.read_nil (a : Nat) : Memory.read [] a = Config.unlistedByte := rfl

theorem Memory.read_erase (m : Memory) (a b : Nat) :
    (Memory.erase m a).read b = if b = a then Config.unlistedByte else m.read b := by
  induction m with
  | nil => simp [Memory.erase]
  | cons cell m ih =>
    obtain ⟨k, v⟩ := cell
    by_cases hk : k = a
    · subst hk
      by_cases hb : b = k
      · simpa [Memory.erase, hb] using ih
      · have hb' : ¬ k = b := fun h => hb h.symm
        simpa [Memory.erase, Memory.read, hb, hb'] using ih
    · by_cases hkb : k = b
      · subst hkb
        simp [Memory.erase, Memory.read, hk]
      · simpa [Memory.erase, Memory.read, hk, hkb] using ih

theorem Memory.read_insert (m : Memory) (a b : Nat) (v : Byte) (h : ∀ cell ∈ m, cell.1 ≠ a) :
    (Memory.insert m a v).read b = if b = a then v else m.read b := by
  induction m with
  | nil => simp [Memory.insert, Memory.read, eq_comm]
  | cons cell m ih =>
    obtain ⟨k, w⟩ := cell
    have hk : k ≠ a := h (k, w) (by simp)
    have hm : ∀ cell ∈ m, cell.1 ≠ a := fun c hc => h c (List.mem_cons_of_mem _ hc)
    by_cases hlt : a < k
    · simp [Memory.insert, Memory.read, hlt, eq_comm]
    · by_cases hkb : k = b
      · subst hkb
        simp [Memory.insert, Memory.read, hlt, hk]
      · simpa [Memory.insert, Memory.read, hlt, hkb] using ih hm

theorem Memory.mem_erase (m : Memory) (a : Nat) (cell : Host.Cell) :
    cell ∈ Memory.erase m a ↔ cell ∈ m ∧ cell.1 ≠ a := by
  induction m with
  | nil => simp [Memory.erase]
  | cons c m ih =>
    obtain ⟨k, v⟩ := c
    by_cases hk : k = a
    · subst hk
      simp only [Memory.erase, if_true, ih, List.mem_cons]
      constructor
      · rintro ⟨h, hne⟩
        exact ⟨Or.inr h, hne⟩
      · rintro ⟨rfl | h, hne⟩
        · exact absurd rfl hne
        · exact ⟨h, hne⟩
    · simp only [Memory.erase, hk, if_false, List.mem_cons, ih]
      constructor
      · rintro (rfl | ⟨h, hne⟩)
        · exact ⟨Or.inl rfl, hk⟩
        · exact ⟨Or.inr h, hne⟩
      · rintro ⟨rfl | h, hne⟩
        · exact Or.inl rfl
        · exact Or.inr ⟨h, hne⟩

theorem Memory.mem_insert (m : Memory) (a : Nat) (v : Byte) (cell : Host.Cell) :
    cell ∈ Memory.insert m a v ↔ cell = (a, v) ∨ cell ∈ m := by
  induction m with
  | nil => simp [Memory.insert]
  | cons c m ih =>
    obtain ⟨k, w⟩ := c
    by_cases hlt : a < k
    · simp [Memory.insert, hlt]
    · simp only [Memory.insert, hlt, if_false, List.mem_cons, ih]
      tauto

/-- A write leaves the written byte to read at its address and every other byte as it was, in any memory. -/
theorem Memory.read_write (m : Memory) (a b : Nat) (v : Byte) :
    (m.write a v).read b = if b = a then v else m.read b := by
  unfold Memory.write
  split
  · next hv => rw [Memory.read_erase, hv]
  · rw [Memory.read_insert _ _ _ _ (fun c hc => ((Memory.mem_erase m a c).1 hc).2), Memory.read_erase]
    by_cases hb : b = a <;> simp [hb]

/-- What a written memory lists was listed before or is the written cell. -/
theorem Memory.mem_write {m : Memory} {a : Nat} {v : Byte} {cell : Host.Cell} (h : cell ∈ m.write a v) :
    cell = (a, v) ∨ cell ∈ m := by
  unfold Memory.write at h
  split at h
  · exact Or.inr ((Memory.mem_erase m a cell).1 h).1
  · rcases (Memory.mem_insert _ a v cell).1 h with h | h
    · exact Or.inl h
    · exact Or.inr ((Memory.mem_erase m a cell).1 h).1

theorem Memory.wf_cons (k : Nat) (v : Byte) (m : Memory) :
    Memory.wf ((k, v) :: m) = true ↔
      v ≠ Config.unlistedByte ∧ (∀ cell ∈ m, k < cell.1) ∧ Memory.wf m = true := by
  simp [Memory.wf, and_assoc]

theorem Memory.wf_erase (m : Memory) (a : Nat) (h : Memory.wf m = true) : Memory.wf (Memory.erase m a) = true := by
  induction m with
  | nil => rfl
  | cons c m ih =>
    obtain ⟨k, v⟩ := c
    obtain ⟨hv, hlt, hm⟩ := (Memory.wf_cons k v m).1 h
    by_cases hk : k = a
    · simpa [Memory.erase, hk] using ih hm
    · simp only [Memory.erase, hk, if_false]
      exact (Memory.wf_cons k v _).2 ⟨hv, fun c hc => hlt c ((Memory.mem_erase m a c).1 hc).1, ih hm⟩

theorem Memory.wf_insert (m : Memory) (a : Nat) (v : Byte) (h : Memory.wf m = true) (hv : v ≠ Config.unlistedByte)
    (ha : ∀ cell ∈ m, cell.1 ≠ a) : Memory.wf (Memory.insert m a v) = true := by
  induction m with
  | nil => exact (Memory.wf_cons a v []).2 ⟨hv, by simp, rfl⟩
  | cons c m ih =>
    obtain ⟨k, w⟩ := c
    obtain ⟨hw, hlt, hm⟩ := (Memory.wf_cons k w m).1 h
    have hk : k ≠ a := ha (k, w) (by simp)
    by_cases hak : a < k
    · simp only [Memory.insert, hak, if_true]
      refine (Memory.wf_cons a v _).2 ⟨hv, fun c hc => ?_, h⟩
      rcases List.mem_cons.1 hc with rfl | hc
      · exact hak
      · exact lt_trans hak (hlt c hc)
    · simp only [Memory.insert, hak, if_false]
      refine (Memory.wf_cons k w _).2 ⟨hw, fun c hc => ?_, ih hm fun c hc => ha c (List.mem_cons_of_mem _ hc)⟩
      rcases (Memory.mem_insert m a v c).1 hc with rfl | hc
      · exact lt_of_le_of_ne (Nat.le_of_not_lt hak) hk
      · exact hlt c hc

/-- A write keeps the canonical form. -/
theorem Memory.wf_write (m : Memory) (a : Nat) (v : Byte) (h : Memory.wf m = true) :
    Memory.wf (m.write a v) = true := by
  unfold Memory.write
  split
  · exact Memory.wf_erase m a h
  · next hv =>
    exact Memory.wf_insert _ a v (Memory.wf_erase m a h) hv fun c hc => ((Memory.mem_erase m a c).1 hc).2

/-- A load of bytes keeps the canonical form. -/
theorem Memory.wf_loadBytes (bytes : List Byte) (a : Nat) (m : Memory) (h : Memory.wf m = true) :
    Memory.wf (loadBytes bytes a m) = true := by
  induction bytes generalizing a m with
  | nil => exact h
  | cons v rest ih => exact ih _ _ (Memory.wf_write m a v h)

/-- Reset's memory is canonical. -/
theorem Memory.wf_reset : Memory.wf State.reset.mem = true := rfl

end Sys2Proof.Machine
end

