-- ==== Sys2Proof/Laws/State.lean ====
section
/-! SUPPORT. The updates of State, one lemma per field: a register or pair write changes the registers it names and no
other field; a record update of any other field leaves every register as it was. -/

namespace Sys2Proof.Machine

@[simp] theorem State.setReg_sp (s : State) (r : Reg) (v : Byte) : (s.setReg r v).sp = s.sp := by cases r <;> rfl
@[simp] theorem State.setReg_pc (s : State) (r : Reg) (v : Byte) : (s.setReg r v).pc = s.pc := by cases r <;> rfl
@[simp] theorem State.setReg_flags (s : State) (r : Reg) (v : Byte) : (s.setReg r v).flags = s.flags := by cases r <;> rfl
@[simp] theorem State.setReg_inte (s : State) (r : Reg) (v : Byte) : (s.setReg r v).inte = s.inte := by cases r <;> rfl
@[simp] theorem State.setReg_run (s : State) (r : Reg) (v : Byte) : (s.setReg r v).run = s.run := by cases r <;> rfl
@[simp] theorem State.setReg_mem (s : State) (r : Reg) (v : Byte) : (s.setReg r v).mem = s.mem := by cases r <;> rfl
@[simp] theorem State.setReg_params (s : State) (r : Reg) (v : Byte) : (s.setReg r v).params = s.params := by cases r <;> rfl
@[simp] theorem State.setReg_portHost (s : State) (r : Reg) (v : Byte) : (s.setReg r v).portHost = s.portHost := by cases r <;> rfl
@[simp] theorem State.setReg_portLog (s : State) (r : Reg) (v : Byte) : (s.setReg r v).portLog = s.portLog := by cases r <;> rfl

@[simp] theorem State.reg_setReg (s : State) (r q : Reg) (v : Byte) :
    (s.setReg r v).reg q = if q = r then v else s.reg q := by
  cases r <;> cases q <;> rfl

@[simp] theorem State.setPair_sp (s : State) (p : Pair) (v : Word) : (s.setPair p v).sp = s.sp := by cases p <;> rfl
@[simp] theorem State.setPair_pc (s : State) (p : Pair) (v : Word) : (s.setPair p v).pc = s.pc := by cases p <;> rfl
@[simp] theorem State.setPair_flags (s : State) (p : Pair) (v : Word) : (s.setPair p v).flags = s.flags := by cases p <;> rfl
@[simp] theorem State.setPair_inte (s : State) (p : Pair) (v : Word) : (s.setPair p v).inte = s.inte := by cases p <;> rfl
@[simp] theorem State.setPair_run (s : State) (p : Pair) (v : Word) : (s.setPair p v).run = s.run := by cases p <;> rfl
@[simp] theorem State.setPair_mem (s : State) (p : Pair) (v : Word) : (s.setPair p v).mem = s.mem := by cases p <;> rfl
@[simp] theorem State.setPair_params (s : State) (p : Pair) (v : Word) : (s.setPair p v).params = s.params := by cases p <;> rfl
@[simp] theorem State.setPair_portHost (s : State) (p : Pair) (v : Word) : (s.setPair p v).portHost = s.portHost := by cases p <;> rfl
@[simp] theorem State.setPair_portLog (s : State) (p : Pair) (v : Word) : (s.setPair p v).portLog = s.portLog := by cases p <;> rfl

/-- Which register a pair write leaves in each register. -/
@[simp] theorem State.reg_setPair (s : State) (p : Pair) (v : Word) (q : Reg) :
    (s.setPair p v).reg q =
      if q = lowReg p then loByte v else if q = highReg p then hiByte v else s.reg q := by
  simp [State.setPair]

@[simp] theorem State.reg_updateSp (s : State) (x : Word) (q : Reg) : State.reg { s with sp := x } q = s.reg q := by
  cases q <;> rfl
@[simp] theorem State.reg_updatePc (s : State) (x : Word) (q : Reg) : State.reg { s with pc := x } q = s.reg q := by
  cases q <;> rfl
@[simp] theorem State.reg_updateFlags (s : State) (x : Flags) (q : Reg) : State.reg { s with flags := x } q = s.reg q := by
  cases q <;> rfl
@[simp] theorem State.reg_updateInte (s : State) (x : Bool) (q : Reg) : State.reg { s with inte := x } q = s.reg q := by
  cases q <;> rfl
@[simp] theorem State.reg_updateRun (s : State) (x : RunState) (q : Reg) : State.reg { s with run := x } q = s.reg q := by
  cases q <;> rfl
@[simp] theorem State.reg_updateMem (s : State) (x : Memory) (q : Reg) : State.reg { s with mem := x } q = s.reg q := by
  cases q <;> rfl
@[simp] theorem State.reg_updateParams (s : State) (x : Params) (q : Reg) : State.reg { s with params := x } q = s.reg q := by
  cases q <;> rfl
@[simp] theorem State.reg_updatePortHost (s : State) (x : PortHost) (q : Reg) : State.reg { s with portHost := x } q = s.reg q := by
  cases q <;> rfl
@[simp] theorem State.reg_updatePortLog (s : State) (x : List PortEvent) (q : Reg) : State.reg { s with portLog := x } q = s.reg q := by
  cases q <;> rfl

@[simp] theorem State.pair_updateSp (s : State) (x : Word) (p : Pair) : State.pair { s with sp := x } p = s.pair p := by
  cases p <;> rfl
@[simp] theorem State.pair_updatePc (s : State) (x : Word) (p : Pair) : State.pair { s with pc := x } p = s.pair p := by
  cases p <;> rfl
@[simp] theorem State.pair_updateFlags (s : State) (x : Flags) (p : Pair) : State.pair { s with flags := x } p = s.pair p := by
  cases p <;> rfl
@[simp] theorem State.pair_updateInte (s : State) (x : Bool) (p : Pair) : State.pair { s with inte := x } p = s.pair p := by
  cases p <;> rfl
@[simp] theorem State.pair_updateRun (s : State) (x : RunState) (p : Pair) : State.pair { s with run := x } p = s.pair p := by
  cases p <;> rfl
@[simp] theorem State.pair_updateMem (s : State) (x : Memory) (p : Pair) : State.pair { s with mem := x } p = s.pair p := by
  cases p <;> rfl
@[simp] theorem State.pair_updateParams (s : State) (x : Params) (p : Pair) : State.pair { s with params := x } p = s.pair p := by
  cases p <;> rfl
@[simp] theorem State.pair_updatePortHost (s : State) (x : PortHost) (p : Pair) : State.pair { s with portHost := x } p = s.pair p := by
  cases p <;> rfl
@[simp] theorem State.pair_updatePortLog (s : State) (x : List PortEvent) (p : Pair) : State.pair { s with portLog := x } p = s.pair p := by
  cases p <;> rfl

@[simp] theorem State.reset_reg (q : Reg) : State.reset.reg q = 0 := by cases q <;> rfl

end Sys2Proof.Machine
end

