-- ==== Sys2Proof/Laws/Words.lean ====
section
/-! SUPPORT. Words and their two bytes: assembling and splitting undo each other. -/

namespace Sys2Proof

@[simp] theorem hiByte_assemble (hi lo : Byte) : hiByte (assemble hi lo) = hi := by
  apply BitVec.eq_of_toNat_eq
  have := hi.isLt; have := lo.isLt
  simp only [hiByte, assemble, BitVec.extractLsb'_toNat, BitVec.toNat_append, Nat.shiftRight_eq_div_pow]
  rw [← Nat.shiftLeft_add_eq_or_of_lt lo.isLt, Nat.shiftLeft_eq]
  omega

@[simp] theorem loByte_assemble (hi lo : Byte) : loByte (assemble hi lo) = lo := by
  apply BitVec.eq_of_toNat_eq
  have := hi.isLt; have := lo.isLt
  simp only [loByte, assemble, BitVec.extractLsb'_toNat, BitVec.toNat_append, Nat.shiftRight_zero]
  rw [← Nat.shiftLeft_add_eq_or_of_lt lo.isLt, Nat.shiftLeft_eq]
  omega

theorem assemble_toNat (hi lo : Byte) : (assemble hi lo).toNat = 256 * hi.toNat + lo.toNat := by
  simp only [assemble, BitVec.toNat_append]
  rw [← Nat.shiftLeft_add_eq_or_of_lt lo.isLt, Nat.shiftLeft_eq]
  omega

theorem hiByte_toNat (w : Word) : (hiByte w).toNat = w.toNat / 256 := by
  have := w.isLt
  simp only [hiByte, BitVec.extractLsb'_toNat, Nat.shiftRight_eq_div_pow]
  omega

theorem loByte_toNat (w : Word) : (loByte w).toNat = w.toNat % 256 := by
  simp [loByte]

@[simp] theorem assemble_bytes (w : Word) : assemble (hiByte w) (loByte w) = w := by
  apply BitVec.eq_of_toNat_eq
  rw [assemble_toNat, hiByte_toNat, loByte_toNat]
  omega

/-- Neighbouring addresses differ. -/
theorem word_add_one_ne (a : Word) : a + 1 ≠ a := by
  intro h
  have e := congrArg BitVec.toNat h
  have := a.isLt
  rw [BitVec.toNat_add] at e
  change (a.toNat + 1) % 65536 = a.toNat at e
  omega

namespace Machine

@[simp] theorem State.pair_setPair (s : State) (p : Pair) (v : Word) : (s.setPair p v).pair p = v := by
  cases p <;> exact assemble_bytes v

end Machine

end Sys2Proof
end

