-- ==== Sys2Proof/Laws/Ops.lean ====
section
/-! SUPPORT. Each shared operation said once: when it answers, and what. -/

namespace Sys2Proof.Machine

theorem memRead1_eq (a : Word) (s : State) :
    memRead1 a s = if s.inRange a then some (s.mem.read a.toNat) else none := rfl

theorem memWrite1_eq (a : Word) (v : Byte) (s : State) :
    memWrite1 a v s = if s.inRange a then some { s with mem := s.mem.write a.toNat v } else none := rfl

theorem memRead2_eq (a : Word) (s : State) :
    memRead2 a s =
      if s.inRange a ∧ s.inRange (a + 1) then some (assemble (s.mem.read (a + 1).toNat) (s.mem.read a.toNat))
      else none := by
  unfold memRead2 memRead1
  by_cases h : s.inRange a
  · by_cases h' : s.inRange (a + 1)
    · rw [if_pos h, Option.bind_some, if_pos h', if_pos ⟨h, h'⟩]; rfl
    · rw [if_pos h, Option.bind_some, if_neg h', if_neg fun c => h' c.2]; rfl
  · rw [if_neg h, Option.bind_none, if_neg fun c => h c.1]

theorem memWrite2_eq (a v : Word) (s : State) :
    memWrite2 a v s =
      if s.inRange a ∧ s.inRange (a + 1) then
        some { s with mem := (s.mem.write a.toNat (loByte v)).write (a + 1).toNat (hiByte v) }
      else none := by
  unfold memWrite2 memWrite1
  by_cases h : s.inRange a
  · by_cases h' : s.inRange (a + 1)
    · rw [if_pos h, Option.bind_some, if_pos h', if_pos ⟨h, h'⟩]
    · rw [if_pos h, Option.bind_some, if_neg h', if_neg fun c => h' c.2]
  · rw [if_neg h, Option.bind_none, if_neg fun c => h c.1]

theorem push16_eq (v : Word) (s : State) :
    push16 v s =
      if s.inRange (s.sp - 1) ∧ s.inRange (s.sp - 2) then
        some { s with
          sp := s.sp - 2
          mem := (s.mem.write (s.sp - 1).toNat (hiByte v)).write (s.sp - 2).toNat (loByte v) }
      else none := by
  unfold push16 memWrite1
  by_cases h : s.inRange (s.sp - 1)
  · by_cases h' : s.inRange (s.sp - 2)
    · rw [if_pos h, Option.bind_some, if_pos h', if_pos ⟨h, h'⟩]; rfl
    · rw [if_pos h, Option.bind_some, if_neg h', if_neg fun c => h' c.2]; rfl
  · rw [if_neg h, Option.bind_none, if_neg fun c => h c.1]

theorem pop16_eq (s : State) :
    pop16 s =
      if s.inRange s.sp ∧ s.inRange (s.sp + 1) then
        some (assemble (s.mem.read (s.sp + 1).toNat) (s.mem.read s.sp.toNat), { s with sp := s.sp + 2 })
      else none := by
  unfold pop16 memRead1
  by_cases h : s.inRange s.sp
  · by_cases h' : s.inRange (s.sp + 1)
    · rw [if_pos h, Option.bind_some, if_pos h', if_pos ⟨h, h'⟩]; rfl
    · rw [if_pos h, Option.bind_some, if_neg h', if_neg fun c => h' c.2]; rfl
  · rw [if_neg h, Option.bind_none, if_neg fun c => h c.1]

theorem portRead_eq (p : Byte) (s : State) :
    portRead p s = (hostAnswer s.portHost s.portLog p,
      { s with
        portHost := hostAfterInput s.portHost p
        portLog := s.portLog ++ [.input p (hostAnswer s.portHost s.portLog p)] }) := rfl

theorem portWrite_eq (p v : Byte) (s : State) :
    portWrite p v s =
      { s with portHost := hostAfterOutput s.portHost p v, portLog := s.portLog ++ [.output p v] } := rfl

@[simp] theorem hostAfterOutput_fixed (bytes : PortTable) (p v : Byte) :
    hostAfterOutput (.fixed bytes) p v = .fixed bytes := rfl

@[simp] theorem hostAfterOutput_free (n : Nat) (p v : Byte) : hostAfterOutput (.free n) p v = .free n := rfl

/-- A host that keeps the table answers what was last sent to a port, and leaves the other ports alone (R99). -/
theorem hostAnswer_table_afterOutput (bytes : PortTable) (log : List PortEvent) (p q v : Byte) :
    hostAnswer (hostAfterOutput (.table bytes) q v) log p =
      if p = q then v else hostAnswer (.table bytes) log p := by
  by_cases h : p = q
  · subst h; simp [hostAnswer, hostAfterOutput]
  · have h' : q.toNat ≠ p.toNat := fun c => h (BitVec.eq_of_toNat_eq c.symm)
    simp [hostAnswer, hostAfterOutput, h, h']

/-- A host whose script lists nothing for a port answers 0x00 there. -/
theorem hostAnswer_scripted_none {answers : List (Byte × Byte)} {p : Byte} (h : ∀ x ∈ answers, x.1 ≠ p)
    (log : List PortEvent) :
    hostAnswer (.scripted answers) log p = 0x00 ∧ hostAfterInput (.scripted answers) p = .scripted answers := by
  have e : answers.lookup p = none := List.lookup_eq_none_iff.2 fun x hx => by simpa using (h x hx).symm
  refine ⟨by simp [hostAnswer, e, Config.defaultPortByte], ?_⟩
  rw [hostAfterInput, List.eraseP_of_forall_not fun x hx => by simpa using (h x hx).symm]

/-- A host answers with the first byte its script lists for a port, and uses it up. -/
theorem hostAnswer_scripted_first {pre rest : List (Byte × Byte)} {p v : Byte} (h : ∀ x ∈ pre, x.1 ≠ p)
    (log : List PortEvent) :
    hostAnswer (.scripted (pre ++ (p, v) :: rest)) log p = v ∧
      hostAfterInput (.scripted (pre ++ (p, v) :: rest)) p = .scripted (pre ++ rest) := by
  have e : pre.lookup p = none := List.lookup_eq_none_iff.2 fun x hx => by simpa using (h x hx).symm
  refine ⟨by simp [hostAnswer, List.lookup_append, e], ?_⟩
  rw [hostAfterInput, List.eraseP_append_right _ fun x hx => by simpa using (h x hx).symm]
  simp

@[simp] theorem outputsOf_append (x y : List PortEvent) : outputsOf (x ++ y) = outputsOf x ++ outputsOf y := by
  induction x with
  | nil => rfl
  | cons e x ih => cases e <;> simp [outputsOf, ih]

/-- A fetch answers its three bytes when the three addresses are in range. -/
theorem fetch_ok {s : State} (h0 : s.inRange s.pc) (h1 : s.inRange (s.pc + 1)) (h2 : s.inRange (s.pc + 2)) :
    fetch s = .ok
      { op := s.mem.read s.pc.toNat, b2 := s.mem.read (s.pc + 1).toNat, b3 := s.mem.read (s.pc + 2).toNat } := by
  simp only [fetch, memRead1, if_pos h0, if_pos h1, if_pos h2]

/-! ### The end of an instruction -/

@[simp] theorem complete_none (i : Instr) (s : State) :
    complete i none s = .fault (.outOfBoundsMemoryAccess s.pc (some (opcodeOf i))) := rfl

@[simp] theorem complete_leavePc (i : Instr) (s t : State) :
    complete i (leavePc t) s = .next { t with pc := s.pc + BitVec.ofNat 16 (1 + operandBytes i) } := rfl

@[simp] theorem complete_setPc (i : Instr) (s t : State) (w : Word) :
    complete i (setPc w t) s = .next { t with pc := w } := rfl

/-- An instruction answers a next state exactly when its handler answers; PC is the handler's or the dispatcher's. -/
theorem complete_next {i : Instr} {h : Option Handled} {s t : State} :
    complete i h s = .next t ↔ ∃ r, h = some r ∧
      t = { r.state with pc := r.target.getD (s.pc + BitVec.ofNat 16 (1 + operandBytes i)) } := by
  rcases h with _ | ⟨s', _ | w⟩ <;> simp [complete, eq_comm]

/-- An instruction that does not answer a next state raises the one fault, never a refusal. -/
theorem complete_cases (i : Instr) (h : Option Handled) (s : State) :
    (∃ t, complete i h s = .next t) ∨
      complete i h s = .fault (.outOfBoundsMemoryAccess s.pc (some (opcodeOf i))) := by
  rcases h with _ | ⟨s', _ | w⟩
  · exact Or.inr rfl
  · exact Or.inl ⟨_, rfl⟩
  · exact Or.inl ⟨_, rfl⟩

end Sys2Proof.Machine
end

