-- ==== Sys2Proof/Laws/Handlers.lean ====
section
/-! SUPPORT. Each shared handler said once: when it answers, and the state and the PC it leaves. -/

namespace Sys2Proof.Machine

theorem loadByte_eq (dst : Reg) (a : Word) (s : State) :
    loadByte dst a s = if s.inRange a then leavePc (s.setReg dst (s.mem.read a.toNat)) else none := by
  unfold loadByte memRead1; split <;> rfl

theorem storeByte_eq (a : Word) (v : Byte) (s : State) :
    storeByte a v s = if s.inRange a then leavePc { s with mem := s.mem.write a.toNat v } else none := by
  unfold storeByte memWrite1; split <;> rfl

theorem loadHl_eq (a : Word) (s : State) :
    loadHl a s =
      if s.inRange a ∧ s.inRange (a + 1) then
        leavePc { s with l := s.mem.read a.toNat, h := s.mem.read (a + 1).toNat }
      else none := by
  rw [loadHl, memRead2_eq]; split <;> simp [State.setPair, State.setReg, highReg, lowReg]

theorem storeHl_eq (a : Word) (s : State) :
    storeHl a s =
      if s.inRange a ∧ s.inRange (a + 1) then
        leavePc { s with mem := (s.mem.write a.toNat s.l).write (a + 1).toNat s.h }
      else none := by
  rw [storeHl, memWrite2_eq]; split <;> simp [State.pair, State.reg, highReg, lowReg]

theorem readSource_mem_eq (s : State) :
    readSource .mem s = if s.inRange (s.pair .hl) then some (s.mem.read (s.pair .hl).toNat) else none := rfl

/-- INR M and DCR M read and write one address. -/
theorem incrementPlace_mem_eq (s : State) :
    incrementPlace .mem s =
      if s.inRange (s.pair .hl) then
        let r := add8 (s.mem.read (s.pair .hl).toNat) 1 false
        leavePc { s with mem := s.mem.write (s.pair .hl).toNat r.res, flags := incFlags r s.flags }
      else none := by
  simp only [incrementPlace, readPlace, writePlace, memRead1, memWrite1]
  split <;> simp_all

theorem decrementPlace_mem_eq (s : State) :
    decrementPlace .mem s =
      if s.inRange (s.pair .hl) then
        let r := sub8 (s.mem.read (s.pair .hl).toNat) 1 false
        leavePc { s with mem := s.mem.write (s.pair .hl).toNat r.res, flags := incFlags r s.flags }
      else none := by
  simp only [decrementPlace, readPlace, writePlace, memRead1, memWrite1]
  split <;> simp_all

theorem callTo_eq (t : Word) (s : State) :
    callTo t s =
      if s.inRange (s.sp - 1) ∧ s.inRange (s.sp - 2) then
        setPc t { s with
          sp := s.sp - 2
          mem := (s.mem.write (s.sp - 1).toNat (hiByte (s.pc + 3))).write (s.sp - 2).toNat (loByte (s.pc + 3)) }
      else none := by
  rw [callTo, push16_eq]; split <;> rfl

theorem restart_eq (t : Word) (s : State) :
    restart t s =
      if s.inRange (s.sp - 1) ∧ s.inRange (s.sp - 2) then
        setPc t { s with
          sp := s.sp - 2
          mem := (s.mem.write (s.sp - 1).toNat (hiByte (s.pc + 1))).write (s.sp - 2).toNat (loByte (s.pc + 1)) }
      else none := by
  rw [restart, push16_eq]; split <;> rfl

theorem returnFrom_eq (s : State) :
    returnFrom s =
      if s.inRange s.sp ∧ s.inRange (s.sp + 1) then
        setPc (assemble (s.mem.read (s.sp + 1).toNat) (s.mem.read s.sp.toNat)) { s with sp := s.sp + 2 }
      else none := by
  rw [returnFrom, pop16_eq]; split <;> rfl

theorem pushWord_eq (v : Word) (s : State) :
    pushWord v s =
      if s.inRange (s.sp - 1) ∧ s.inRange (s.sp - 2) then
        leavePc { s with
          sp := s.sp - 2
          mem := (s.mem.write (s.sp - 1).toNat (hiByte v)).write (s.sp - 2).toNat (loByte v) }
      else none := by
  rw [pushWord, push16_eq]; split <;> rfl

theorem popPair_eq (p : Pair) (s : State) :
    popPair p s =
      if s.inRange s.sp ∧ s.inRange (s.sp + 1) then
        leavePc (State.setPair { s with sp := s.sp + 2 } p
          (assemble (s.mem.read (s.sp + 1).toNat) (s.mem.read s.sp.toNat)))
      else none := by
  rw [popPair, pop16_eq]; split <;> rfl

theorem popPsw_eq (s : State) :
    popPsw s =
      if s.inRange s.sp ∧ s.inRange (s.sp + 1) then
        leavePc { s with
          a := s.mem.read (s.sp + 1).toNat
          flags := unpackFlags (s.mem.read s.sp.toNat)
          sp := s.sp + 2 }
      else none := by
  rw [popPsw, pop16_eq]; split <;> simp

theorem exchangeHlTop_eq (s : State) :
    exchangeHlTop s =
      if s.inRange s.sp ∧ s.inRange (s.sp + 1) then
        leavePc { s with
          mem := (s.mem.write s.sp.toNat s.l).write (s.sp + 1).toNat s.h
          l := s.mem.read s.sp.toNat
          h := s.mem.read (s.sp + 1).toNat }
      else none := by
  unfold exchangeHlTop memRead1 memWrite1
  by_cases h : s.inRange s.sp
  · by_cases h' : s.inRange (s.sp + 1)
    · simp only [if_pos h, Option.bind_some, if_pos h']; rw [if_pos ⟨h, h'⟩]
    · rw [if_pos h, Option.bind_some, if_neg h', Option.bind_none, if_neg fun c => h' c.2]
  · rw [if_neg h, Option.bind_none, if_neg fun c => h c.1]

/-! ### One handler per form -/

/-- The handler of an accumulator operation. -/
def accHandler (op : AccOp) (o : Source) (s : State) : Option Handled :=
  match op with
  | .add => addA o s
  | .adc => adcA o s
  | .sub => subA o s
  | .sbb => sbbA o s
  | .ana => logicA .and o s
  | .xra => logicA .xor o s
  | .ora => logicA .or o s
  | .cmp => compareA o s

/-- The handler of a form: what every meaning of that form runs. -/
def formHandler (f : Form) (s : State) : Option Handled :=
  match f with
  | .movRR dst src => moveReg dst src s
  | .movRM dst => loadByte dst (s.pair .hl) s
  | .movMR src => storeByte (s.pair .hl) (s.reg src) s
  | .mviR dst imm => moveImm dst imm s
  | .mviM imm => storeByte (s.pair .hl) imm s
  | .lxi p imm => loadPair p imm s
  | .lxiSP imm => loadSp imm s
  | .lda addr => loadByte .a addr s
  | .sta addr => storeByte addr s.a s
  | .ldaxB => loadByte .a (s.pair .bc) s
  | .ldaxD => loadByte .a (s.pair .de) s
  | .staxB => storeByte (s.pair .bc) s.a s
  | .staxD => storeByte (s.pair .de) s.a s
  | .lhld addr => loadHl addr s
  | .shld addr => storeHl addr s
  | .xchg => exchangeHlDe s
  | .accR op src => accHandler op (.reg src) s
  | .accM op => accHandler op .mem s
  | .accI op imm => accHandler op (.imm imm) s
  | .rlc => rotateA .rlc s
  | .rrc => rotateA .rrc s
  | .ral => rotateA .ral s
  | .rar => rotateA .rar s
  | .cma => complementA s
  | .cmc => complementCarry s
  | .stc => setCarry s
  | .jmp addr => jump addr s
  | .jcc cond addr => jumpIf cond addr s
  | .call addr => callTo addr s
  | .ccc cond addr => callIf cond addr s
  | .ret => returnFrom s
  | .rcc cond => returnIf cond s
  | .rst n => restart (restartVector n) s
  | .pchl => jump (s.pair .hl) s
  | .push p => pushWord (s.pair p) s
  | .pushPSW => pushWord (assemble s.a (packFlags s.flags)) s
  | .pop p => popPair p s
  | .popPSW => popPsw s
  | .xthl => exchangeHlTop s
  | .sphl => loadSp (s.pair .hl) s
  | .hlt => halt s
  | .nop => leavePc s
  | .ei => setInte true s
  | .di => setInte false s
  | .inPort port => inputA port s
  | .outPort port => outputA port s
  | .inrR dst => incrementPlace (.reg dst) s
  | .inrM => incrementPlace .mem s
  | .dcrR dst => decrementPlace (.reg dst) s
  | .dcrM => decrementPlace .mem s
  | .inx p => incrementPair p s
  | .inxSP => incrementSp s
  | .dcx p => decrementPair p s
  | .dcxSP => decrementSp s
  | .dad p => addToHl (s.pair p) s
  | .dadSP => addToHl s.sp s
  | .daa => decimalAdjust s

/-- Every arm of `exec` ends in `complete` of its own instruction over the handler of its form. A proof over all
instructions goes over the forms through this. -/
theorem exec_eq (i : Instr) (s : State) : exec i s = complete i (formHandler (formOf i) s) s := by
  cases i <;> rfl

/-- An instruction answers a next state or raises the one fault, and is never refused. -/
theorem exec_cases (i : Instr) (s : State) :
    (∃ t, exec i s = .next t) ∨ exec i s = .fault (.outOfBoundsMemoryAccess s.pc (some (opcodeOf i))) := by
  rw [exec_eq]; exact complete_cases _ _ s

/-- What a next state of `exec` is: the handler's state, with the handler's or the dispatcher's PC. -/
theorem exec_next {i : Instr} {s t : State} :
    exec i s = .next t ↔ ∃ r, formHandler (formOf i) s = some r ∧
      t = { r.state with pc := r.target.getD (s.pc + BitVec.ofNat 16 (1 + operandBytes i)) } := by
  rw [exec_eq]; exact complete_next

end Sys2Proof.Machine
end

