-- ==== Sys2Proof/Laws/Effects.lean ====
section
/-! SUPPORT. What each form does, once and in closed form: it answers exactly when its accesses are in range, and then
leaves the state `effect` and the PC `branchTarget`. -/

namespace Sys2Proof.Machine

open Sys2Proof.Safety

/-- The byte an address holds. -/
def peek (s : State) (a : Word) : Byte := s.mem.read a.toNat

/-- The state with one byte of memory written. -/
def poke (s : State) (a : Word) (v : Byte) : State := { s with mem := s.mem.write a.toNat v }

/-- The state with a word on the stack. -/
def onStack (s : State) (v : Word) : State :=
  { s with
    sp := s.sp - 2
    mem := (s.mem.write (s.sp - 1).toNat (hiByte v)).write (s.sp - 2).toNat (loByte v) }

/-- A and the flags after an accumulator operation on `v`. -/
def accEffect (op : AccOp) (v : Byte) (s : State) : Byte × Flags :=
  match op with
  | .add => ((add8 s.a v false).res, aluFlags (add8 s.a v false) s.flags)
  | .adc => ((add8 s.a v s.flags.cy).res, aluFlags (add8 s.a v s.flags.cy) s.flags)
  | .sub => ((sub8 s.a v false).res, aluFlags (sub8 s.a v false) s.flags)
  | .sbb => ((sub8 s.a v s.flags.cy).res, aluFlags (sub8 s.a v s.flags.cy) s.flags)
  | .ana => (logic8 .and s.a v, logicFlags .and s.a v (logic8 .and s.a v) s.flags)
  | .xra => (logic8 .xor s.a v, logicFlags .xor s.a v (logic8 .xor s.a v) s.flags)
  | .ora => (logic8 .or s.a v, logicFlags .or s.a v (logic8 .or s.a v) s.flags)
  | .cmp => (s.a, aluFlags (sub8 s.a v false) s.flags)

/-- The state with A and the flags replaced. -/
def withAcc (s : State) (r : Byte × Flags) : State := { s with a := r.1, flags := r.2 }

/-- The state with HL and CY replaced by a 16-bit sum. -/
def withSum (s : State) (v : Word) : State :=
  { s.setPair .hl (add16 (s.pair .hl) v).1 with flags := { s.flags with cy := (add16 (s.pair .hl) v).2 } }

/-- The state with A and CY replaced by a rotate. -/
def rotated (k : Rotate) (s : State) : State :=
  { s with
    a := (rotate8 k s.a s.flags.cy).1
    flags := { s.flags with cy := (rotate8 k s.a s.flags.cy).2 } }

/-- The state a form leaves, PC as it was. -/
def effect (f : Form) (s : State) : State :=
  match f with
  | .movRR dst src => s.setReg dst (s.reg src)
  | .movRM dst => s.setReg dst (peek s (s.pair .hl))
  | .movMR src => poke s (s.pair .hl) (s.reg src)
  | .mviR dst imm => s.setReg dst imm
  | .mviM imm => poke s (s.pair .hl) imm
  | .lxi p imm => s.setPair p imm
  | .lxiSP imm => { s with sp := imm }
  | .lda addr => s.setReg .a (peek s addr)
  | .sta addr => poke s addr s.a
  | .ldaxB => s.setReg .a (peek s (s.pair .bc))
  | .ldaxD => s.setReg .a (peek s (s.pair .de))
  | .staxB => poke s (s.pair .bc) s.a
  | .staxD => poke s (s.pair .de) s.a
  | .lhld addr => { s with l := peek s addr, h := peek s (addr + 1) }
  | .shld addr => { s with mem := (s.mem.write addr.toNat s.l).write (addr + 1).toNat s.h }
  | .xchg => (s.setPair .hl (s.pair .de)).setPair .de (s.pair .hl)
  | .accR op src => withAcc s (accEffect op (s.reg src) s)
  | .accM op => withAcc s (accEffect op (peek s (s.pair .hl)) s)
  | .accI op imm => withAcc s (accEffect op imm s)
  | .rlc => rotated .rlc s
  | .rrc => rotated .rrc s
  | .ral => rotated .ral s
  | .rar => rotated .rar s
  | .cma => { s with a := s.a ^^^ 0xFF }
  | .cmc => { s with flags := { s.flags with cy := !s.flags.cy } }
  | .stc => { s with flags := { s.flags with cy := true } }
  | .jmp _ | .jcc _ _ | .pchl | .nop => s
  | .call _ => onStack s (s.pc + 3)
  | .ccc cond _ => if condHolds cond s.flags then onStack s (s.pc + 3) else s
  | .ret => { s with sp := s.sp + 2 }
  | .rcc cond => if condHolds cond s.flags then { s with sp := s.sp + 2 } else s
  | .rst _ => onStack s (s.pc + 1)
  | .push p => onStack s (s.pair p)
  | .pushPSW => onStack s (assemble s.a (packFlags s.flags))
  | .pop p => State.setPair { s with sp := s.sp + 2 } p (topWord s)
  | .popPSW => { s with a := peek s (s.sp + 1), flags := unpackFlags (peek s s.sp), sp := s.sp + 2 }
  | .xthl =>
    { s with
      mem := (s.mem.write s.sp.toNat s.l).write (s.sp + 1).toNat s.h
      l := peek s s.sp
      h := peek s (s.sp + 1) }
  | .sphl => { s with sp := s.pair .hl }
  | .hlt => { s with run := .halted }
  | .ei => { s with inte := true }
  | .di => { s with inte := false }
  | .inPort port =>
    { s with
      a := hostAnswer s.portHost s.portLog port
      portHost := hostAfterInput s.portHost port
      portLog := s.portLog ++ [.input port (hostAnswer s.portHost s.portLog port)] }
  | .outPort port =>
    { s with portHost := hostAfterOutput s.portHost port s.a, portLog := s.portLog ++ [.output port s.a] }
  | .inrR dst =>
    { s.setReg dst (add8 (s.reg dst) 1 false).res with flags := incFlags (add8 (s.reg dst) 1 false) s.flags }
  | .inrM =>
    { poke s (s.pair .hl) (add8 (peek s (s.pair .hl)) 1 false).res with
      flags := incFlags (add8 (peek s (s.pair .hl)) 1 false) s.flags }
  | .dcrR dst =>
    { s.setReg dst (sub8 (s.reg dst) 1 false).res with flags := incFlags (sub8 (s.reg dst) 1 false) s.flags }
  | .dcrM =>
    { poke s (s.pair .hl) (sub8 (peek s (s.pair .hl)) 1 false).res with
      flags := incFlags (sub8 (peek s (s.pair .hl)) 1 false) s.flags }
  | .inx p => s.setPair p (s.pair p + 1)
  | .inxSP => { s with sp := s.sp + 1 }
  | .dcx p => s.setPair p (s.pair p - 1)
  | .dcxSP => { s with sp := s.sp - 1 }
  | .dad p => withSum s (s.pair p)
  | .dadSP => withSum s s.sp
  | .daa => withAcc s ((daa8 s.a s.flags.cy s.flags.ac).res, aluFlags (daa8 s.a s.flags.cy s.flags.ac) s.flags)

theorem accHandler_eq (op : AccOp) (o : Source) (s : State) :
    accHandler op o s = (readSource o s).bind fun v => leavePc (withAcc s (accEffect op v s)) := by
  cases op <;> rfl

theorem inputA_eq (port : Byte) (s : State) : inputA port s = leavePc (effect (.inPort port) s) := by
  rw [inputA, portRead_eq]; rfl

theorem answers_always {f : Form} {s : State} {r : Handled} (hl : loadAddrs f s = []) (hs : storeAddrs f s = [])
    (h : formHandler f s = some r) : formHandler f s = if accessesInRange f s then some r else none := by
  rw [if_pos, h]
  simp [accessesInRange, hl, hs]

theorem answers_when {f : Form} {s : State} {r : Handled} {p : Prop} [Decidable p] (hp : p ↔ accessesInRange f s)
    (h : formHandler f s = if p then some r else none) :
    formHandler f s = if accessesInRange f s then some r else none := by
  rw [h]; simp only [hp]

/-- A form answers exactly when every address it accesses is in range, and leaves `effect` and `branchTarget`. -/
theorem formHandler_eq (f : Form) (s : State) :
    formHandler f s =
      if accessesInRange f s then some { state := effect f s, target := branchTarget f s } else none := by
  cases f
  case inPort => exact answers_always rfl rfl (inputA_eq _ s)
  case accM op =>
    refine answers_when (p := s.inRange (s.pair .hl)) (by simp [accessesInRange, loadAddrs, storeAddrs]) ?_
    rw [formHandler, accHandler_eq, readSource_mem_eq]
    split <;> rfl
  case accR => exact answers_always rfl rfl (accHandler_eq _ _ s)
  case accI => exact answers_always rfl rfl (accHandler_eq _ _ s)
  case movRM dst => exact answers_when (by simp [accessesInRange, loadAddrs, storeAddrs]) (loadByte_eq dst _ s)
  case movMR src => exact answers_when (by simp [accessesInRange, loadAddrs, storeAddrs]) (storeByte_eq _ _ s)
  case mviM => exact answers_when (by simp [accessesInRange, loadAddrs, storeAddrs]) (storeByte_eq _ _ s)
  case lda => exact answers_when (by simp [accessesInRange, loadAddrs, storeAddrs]) (loadByte_eq _ _ s)
  case sta => exact answers_when (by simp [accessesInRange, loadAddrs, storeAddrs]) (storeByte_eq _ _ s)
  case ldaxB => exact answers_when (by simp [accessesInRange, loadAddrs, storeAddrs]) (loadByte_eq _ _ s)
  case ldaxD => exact answers_when (by simp [accessesInRange, loadAddrs, storeAddrs]) (loadByte_eq _ _ s)
  case staxB => exact answers_when (by simp [accessesInRange, loadAddrs, storeAddrs]) (storeByte_eq _ _ s)
  case staxD => exact answers_when (by simp [accessesInRange, loadAddrs, storeAddrs]) (storeByte_eq _ _ s)
  case lhld => exact answers_when (by simp [accessesInRange, loadAddrs, storeAddrs]) (loadHl_eq _ s)
  case shld => exact answers_when (by simp [accessesInRange, loadAddrs, storeAddrs]) (storeHl_eq _ s)
  case call => exact answers_when (by simp [accessesInRange, loadAddrs, storeAddrs, pushAddrs]) (callTo_eq _ s)
  case rst => exact answers_when (by simp [accessesInRange, loadAddrs, storeAddrs, pushAddrs]) (restart_eq _ s)
  case ret => exact answers_when (by simp [accessesInRange, loadAddrs, storeAddrs, topAddrs]) (returnFrom_eq s)
  case push => exact answers_when (by simp [accessesInRange, loadAddrs, storeAddrs, pushAddrs]) (pushWord_eq _ s)
  case pushPSW => exact answers_when (by simp [accessesInRange, loadAddrs, storeAddrs, pushAddrs]) (pushWord_eq _ s)
  case pop => exact answers_when (by simp [accessesInRange, loadAddrs, storeAddrs, topAddrs]) (popPair_eq _ s)
  case popPSW => exact answers_when (by simp [accessesInRange, loadAddrs, storeAddrs, topAddrs]) (popPsw_eq s)
  case xthl => exact answers_when (by simp [accessesInRange, loadAddrs, storeAddrs, topAddrs]) (exchangeHlTop_eq s)
  case inrM => exact answers_when (by simp [accessesInRange, loadAddrs, storeAddrs]) (incrementPlace_mem_eq s)
  case dcrM => exact answers_when (by simp [accessesInRange, loadAddrs, storeAddrs]) (decrementPlace_mem_eq s)
  case jcc cond addr =>
    refine answers_always rfl rfl ?_
    cases h : condHolds cond s.flags <;> simp [formHandler, jumpIf, jump, effect, branchTarget, setPc, leavePc, h]
  case ccc cond addr =>
    cases h : condHolds cond s.flags
    · exact answers_always rfl (by simp [storeAddrs, h]) (by simp [formHandler, callIf, effect, branchTarget, leavePc, h])
    · refine answers_when (p := s.inRange (s.sp - 1) ∧ s.inRange (s.sp - 2))
        (by simp [accessesInRange, loadAddrs, storeAddrs, pushAddrs, h]) ?_
      simp only [formHandler, callIf, callTo_eq, effect, branchTarget, setPc, onStack, h, if_true]
  case rcc cond =>
    cases h : condHolds cond s.flags
    · exact answers_always (by simp [loadAddrs, h]) rfl (by simp [formHandler, returnIf, effect, branchTarget, leavePc, h])
    · refine answers_when (p := s.inRange s.sp ∧ s.inRange (s.sp + 1))
        (by simp [accessesInRange, loadAddrs, storeAddrs, topAddrs, h]) ?_
      simp only [formHandler, returnIf, returnFrom_eq, effect, branchTarget, setPc, topWord, h, if_true]
  all_goals exact answers_always rfl rfl rfl

end Sys2Proof.Machine
end

