-- ==== Sys2Proof/Laws/PerInstr.lean ====
section
/-! SUPPORT. A statement made instruction by instruction: the encoder's bytes are the opcode byte and the operand bytes
that the bit tests of 30_encoding.md R129 give that opcode. -/

namespace Sys2Proof.Laws.EncodedBytes

/-- An instruction of the machine is encoded in one opcode byte and the operand bytes R129 declares for it. -/
def Statement (i : Instr) : Prop :=
  ∀ cb : CbAlias, i.wellFormed cb = true →
    (encode i).head? = some (opcodeOf i) ∧ (encode i).length = 1 + operandBytesOf cb (opcodeOf i)

/-- The bytes of an encoding and the operand count of its opcode settle the statement. -/
theorem of_bytes {i : Instr} (op : Byte) (operands : List Byte) (n : Nat) (h : encode i = op :: operands)
    (hn : operands.length = n) (hop : ∀ cb : CbAlias, i.wellFormed cb = true → operandBytesOf cb op = n) :
    Statement i := by
  intro cb hwf
  simp [opcodeOf, h, hn, hop cb hwf, Nat.add_comm]

/-- The same for an opcode whose operand count does not depend on CB_ALIAS. -/
theorem of_fixed {i : Instr} (op : Byte) (operands : List Byte) (n : Nat) (h : encode i = op :: operands)
    (hn : operands.length = n) (hr : operandBytesOf .ret op = n) (hj : operandBytesOf .jmp op = n) : Statement i :=
  of_bytes op operands n h hn fun cb _ => by cases cb <;> assumption

theorem movBB : Statement .movBB := of_fixed 0x40 [] 0 rfl rfl rfl rfl
theorem movBC : Statement .movBC := of_fixed 0x41 [] 0 rfl rfl rfl rfl
theorem movBD : Statement .movBD := of_fixed 0x42 [] 0 rfl rfl rfl rfl
theorem movBE : Statement .movBE := of_fixed 0x43 [] 0 rfl rfl rfl rfl
theorem movBH : Statement .movBH := of_fixed 0x44 [] 0 rfl rfl rfl rfl
theorem movBL : Statement .movBL := of_fixed 0x45 [] 0 rfl rfl rfl rfl
theorem movBA : Statement .movBA := of_fixed 0x47 [] 0 rfl rfl rfl rfl
theorem movCB : Statement .movCB := of_fixed 0x48 [] 0 rfl rfl rfl rfl
theorem movCC : Statement .movCC := of_fixed 0x49 [] 0 rfl rfl rfl rfl
theorem movCD : Statement .movCD := of_fixed 0x4A [] 0 rfl rfl rfl rfl
theorem movCE : Statement .movCE := of_fixed 0x4B [] 0 rfl rfl rfl rfl
theorem movCH : Statement .movCH := of_fixed 0x4C [] 0 rfl rfl rfl rfl
theorem movCL : Statement .movCL := of_fixed 0x4D [] 0 rfl rfl rfl rfl
theorem movCA : Statement .movCA := of_fixed 0x4F [] 0 rfl rfl rfl rfl
theorem movDB : Statement .movDB := of_fixed 0x50 [] 0 rfl rfl rfl rfl
theorem movDC : Statement .movDC := of_fixed 0x51 [] 0 rfl rfl rfl rfl
theorem movDD : Statement .movDD := of_fixed 0x52 [] 0 rfl rfl rfl rfl
theorem movDE : Statement .movDE := of_fixed 0x53 [] 0 rfl rfl rfl rfl
theorem movDH : Statement .movDH := of_fixed 0x54 [] 0 rfl rfl rfl rfl
theorem movDL : Statement .movDL := of_fixed 0x55 [] 0 rfl rfl rfl rfl
theorem movDA : Statement .movDA := of_fixed 0x57 [] 0 rfl rfl rfl rfl
theorem movEB : Statement .movEB := of_fixed 0x58 [] 0 rfl rfl rfl rfl
theorem movEC : Statement .movEC := of_fixed 0x59 [] 0 rfl rfl rfl rfl
theorem movED : Statement .movED := of_fixed 0x5A [] 0 rfl rfl rfl rfl
theorem movEE : Statement .movEE := of_fixed 0x5B [] 0 rfl rfl rfl rfl
theorem movEH : Statement .movEH := of_fixed 0x5C [] 0 rfl rfl rfl rfl
theorem movEL : Statement .movEL := of_fixed 0x5D [] 0 rfl rfl rfl rfl
theorem movEA : Statement .movEA := of_fixed 0x5F [] 0 rfl rfl rfl rfl
theorem movHB : Statement .movHB := of_fixed 0x60 [] 0 rfl rfl rfl rfl
theorem movHC : Statement .movHC := of_fixed 0x61 [] 0 rfl rfl rfl rfl
theorem movHD : Statement .movHD := of_fixed 0x62 [] 0 rfl rfl rfl rfl
theorem movHE : Statement .movHE := of_fixed 0x63 [] 0 rfl rfl rfl rfl
theorem movHH : Statement .movHH := of_fixed 0x64 [] 0 rfl rfl rfl rfl
theorem movHL : Statement .movHL := of_fixed 0x65 [] 0 rfl rfl rfl rfl
theorem movHA : Statement .movHA := of_fixed 0x67 [] 0 rfl rfl rfl rfl
theorem movLB : Statement .movLB := of_fixed 0x68 [] 0 rfl rfl rfl rfl
theorem movLC : Statement .movLC := of_fixed 0x69 [] 0 rfl rfl rfl rfl
theorem movLD : Statement .movLD := of_fixed 0x6A [] 0 rfl rfl rfl rfl
theorem movLE : Statement .movLE := of_fixed 0x6B [] 0 rfl rfl rfl rfl
theorem movLH : Statement .movLH := of_fixed 0x6C [] 0 rfl rfl rfl rfl
theorem movLL : Statement .movLL := of_fixed 0x6D [] 0 rfl rfl rfl rfl
theorem movLA : Statement .movLA := of_fixed 0x6F [] 0 rfl rfl rfl rfl
theorem movAB : Statement .movAB := of_fixed 0x78 [] 0 rfl rfl rfl rfl
theorem movAC : Statement .movAC := of_fixed 0x79 [] 0 rfl rfl rfl rfl
theorem movAD : Statement .movAD := of_fixed 0x7A [] 0 rfl rfl rfl rfl
theorem movAE : Statement .movAE := of_fixed 0x7B [] 0 rfl rfl rfl rfl
theorem movAH : Statement .movAH := of_fixed 0x7C [] 0 rfl rfl rfl rfl
theorem movAL : Statement .movAL := of_fixed 0x7D [] 0 rfl rfl rfl rfl
theorem movAA : Statement .movAA := of_fixed 0x7F [] 0 rfl rfl rfl rfl
theorem movBM : Statement .movBM := of_fixed 0x46 [] 0 rfl rfl rfl rfl
theorem movCM : Statement .movCM := of_fixed 0x4E [] 0 rfl rfl rfl rfl
theorem movDM : Statement .movDM := of_fixed 0x56 [] 0 rfl rfl rfl rfl
theorem movEM : Statement .movEM := of_fixed 0x5E [] 0 rfl rfl rfl rfl
theorem movHM : Statement .movHM := of_fixed 0x66 [] 0 rfl rfl rfl rfl
theorem movLM : Statement .movLM := of_fixed 0x6E [] 0 rfl rfl rfl rfl
theorem movAM : Statement .movAM := of_fixed 0x7E [] 0 rfl rfl rfl rfl
theorem movMB : Statement .movMB := of_fixed 0x70 [] 0 rfl rfl rfl rfl
theorem movMC : Statement .movMC := of_fixed 0x71 [] 0 rfl rfl rfl rfl
theorem movMD : Statement .movMD := of_fixed 0x72 [] 0 rfl rfl rfl rfl
theorem movME : Statement .movME := of_fixed 0x73 [] 0 rfl rfl rfl rfl
theorem movMH : Statement .movMH := of_fixed 0x74 [] 0 rfl rfl rfl rfl
theorem movML : Statement .movML := of_fixed 0x75 [] 0 rfl rfl rfl rfl
theorem movMA : Statement .movMA := of_fixed 0x77 [] 0 rfl rfl rfl rfl
theorem mviB (imm : Byte) : Statement (.mviB imm) := of_fixed 0x06 [imm] 1 rfl rfl rfl rfl
theorem mviC (imm : Byte) : Statement (.mviC imm) := of_fixed 0x0E [imm] 1 rfl rfl rfl rfl
theorem mviD (imm : Byte) : Statement (.mviD imm) := of_fixed 0x16 [imm] 1 rfl rfl rfl rfl
theorem mviE (imm : Byte) : Statement (.mviE imm) := of_fixed 0x1E [imm] 1 rfl rfl rfl rfl
theorem mviH (imm : Byte) : Statement (.mviH imm) := of_fixed 0x26 [imm] 1 rfl rfl rfl rfl
theorem mviL (imm : Byte) : Statement (.mviL imm) := of_fixed 0x2E [imm] 1 rfl rfl rfl rfl
theorem mviA (imm : Byte) : Statement (.mviA imm) := of_fixed 0x3E [imm] 1 rfl rfl rfl rfl
theorem mviM (imm : Byte) : Statement (.mviM imm) := of_fixed 0x36 [imm] 1 rfl rfl rfl rfl
theorem lxiB (imm : Word) : Statement (.lxiB imm) := of_fixed 0x01 [loByte imm, hiByte imm] 2 rfl rfl rfl rfl
theorem lxiD (imm : Word) : Statement (.lxiD imm) := of_fixed 0x11 [loByte imm, hiByte imm] 2 rfl rfl rfl rfl
theorem lxiH (imm : Word) : Statement (.lxiH imm) := of_fixed 0x21 [loByte imm, hiByte imm] 2 rfl rfl rfl rfl
theorem lxiSP (imm : Word) : Statement (.lxiSP imm) :=
  of_fixed 0x31 [loByte imm, hiByte imm] 2 rfl rfl rfl rfl
theorem lda (addr : Word) : Statement (.lda addr) :=
  of_fixed 0x3A [loByte addr, hiByte addr] 2 rfl rfl rfl rfl
theorem sta (addr : Word) : Statement (.sta addr) :=
  of_fixed 0x32 [loByte addr, hiByte addr] 2 rfl rfl rfl rfl
theorem ldaxB : Statement .ldaxB := of_fixed 0x0A [] 0 rfl rfl rfl rfl
theorem ldaxD : Statement .ldaxD := of_fixed 0x1A [] 0 rfl rfl rfl rfl
theorem staxB : Statement .staxB := of_fixed 0x02 [] 0 rfl rfl rfl rfl
theorem staxD : Statement .staxD := of_fixed 0x12 [] 0 rfl rfl rfl rfl
theorem lhld (addr : Word) : Statement (.lhld addr) :=
  of_fixed 0x2A [loByte addr, hiByte addr] 2 rfl rfl rfl rfl
theorem shld (addr : Word) : Statement (.shld addr) :=
  of_fixed 0x22 [loByte addr, hiByte addr] 2 rfl rfl rfl rfl
theorem xchg : Statement .xchg := of_fixed 0xEB [] 0 rfl rfl rfl rfl
theorem anaB : Statement .anaB := of_fixed 0xA0 [] 0 rfl rfl rfl rfl
theorem anaC : Statement .anaC := of_fixed 0xA1 [] 0 rfl rfl rfl rfl
theorem anaD : Statement .anaD := of_fixed 0xA2 [] 0 rfl rfl rfl rfl
theorem anaE : Statement .anaE := of_fixed 0xA3 [] 0 rfl rfl rfl rfl
theorem anaH : Statement .anaH := of_fixed 0xA4 [] 0 rfl rfl rfl rfl
theorem anaL : Statement .anaL := of_fixed 0xA5 [] 0 rfl rfl rfl rfl
theorem anaA : Statement .anaA := of_fixed 0xA7 [] 0 rfl rfl rfl rfl
theorem anaM : Statement .anaM := of_fixed 0xA6 [] 0 rfl rfl rfl rfl
theorem ani (imm : Byte) : Statement (.ani imm) := of_fixed 0xE6 [imm] 1 rfl rfl rfl rfl
theorem xraB : Statement .xraB := of_fixed 0xA8 [] 0 rfl rfl rfl rfl
theorem xraC : Statement .xraC := of_fixed 0xA9 [] 0 rfl rfl rfl rfl
theorem xraD : Statement .xraD := of_fixed 0xAA [] 0 rfl rfl rfl rfl
theorem xraE : Statement .xraE := of_fixed 0xAB [] 0 rfl rfl rfl rfl
theorem xraH : Statement .xraH := of_fixed 0xAC [] 0 rfl rfl rfl rfl
theorem xraL : Statement .xraL := of_fixed 0xAD [] 0 rfl rfl rfl rfl
theorem xraA : Statement .xraA := of_fixed 0xAF [] 0 rfl rfl rfl rfl
theorem xraM : Statement .xraM := of_fixed 0xAE [] 0 rfl rfl rfl rfl
theorem xri (imm : Byte) : Statement (.xri imm) := of_fixed 0xEE [imm] 1 rfl rfl rfl rfl
theorem oraB : Statement .oraB := of_fixed 0xB0 [] 0 rfl rfl rfl rfl
theorem oraC : Statement .oraC := of_fixed 0xB1 [] 0 rfl rfl rfl rfl
theorem oraD : Statement .oraD := of_fixed 0xB2 [] 0 rfl rfl rfl rfl
theorem oraE : Statement .oraE := of_fixed 0xB3 [] 0 rfl rfl rfl rfl
theorem oraH : Statement .oraH := of_fixed 0xB4 [] 0 rfl rfl rfl rfl
theorem oraL : Statement .oraL := of_fixed 0xB5 [] 0 rfl rfl rfl rfl
theorem oraA : Statement .oraA := of_fixed 0xB7 [] 0 rfl rfl rfl rfl
theorem oraM : Statement .oraM := of_fixed 0xB6 [] 0 rfl rfl rfl rfl
theorem ori (imm : Byte) : Statement (.ori imm) := of_fixed 0xF6 [imm] 1 rfl rfl rfl rfl
theorem cmpB : Statement .cmpB := of_fixed 0xB8 [] 0 rfl rfl rfl rfl
theorem cmpC : Statement .cmpC := of_fixed 0xB9 [] 0 rfl rfl rfl rfl
theorem cmpD : Statement .cmpD := of_fixed 0xBA [] 0 rfl rfl rfl rfl
theorem cmpE : Statement .cmpE := of_fixed 0xBB [] 0 rfl rfl rfl rfl
theorem cmpH : Statement .cmpH := of_fixed 0xBC [] 0 rfl rfl rfl rfl
theorem cmpL : Statement .cmpL := of_fixed 0xBD [] 0 rfl rfl rfl rfl
theorem cmpA : Statement .cmpA := of_fixed 0xBF [] 0 rfl rfl rfl rfl
theorem cmpM : Statement .cmpM := of_fixed 0xBE [] 0 rfl rfl rfl rfl
theorem cpi (imm : Byte) : Statement (.cpi imm) := of_fixed 0xFE [imm] 1 rfl rfl rfl rfl
theorem rlc : Statement .rlc := of_fixed 0x07 [] 0 rfl rfl rfl rfl
theorem rrc : Statement .rrc := of_fixed 0x0F [] 0 rfl rfl rfl rfl
theorem ral : Statement .ral := of_fixed 0x17 [] 0 rfl rfl rfl rfl
theorem rar : Statement .rar := of_fixed 0x1F [] 0 rfl rfl rfl rfl
theorem cma : Statement .cma := of_fixed 0x2F [] 0 rfl rfl rfl rfl
theorem cmc : Statement .cmc := of_fixed 0x3F [] 0 rfl rfl rfl rfl
theorem stc : Statement .stc := of_fixed 0x37 [] 0 rfl rfl rfl rfl
theorem jmp (addr : Word) : Statement (.jmp addr) :=
  of_fixed 0xC3 [loByte addr, hiByte addr] 2 rfl rfl rfl rfl
theorem jnz (addr : Word) : Statement (.jnz addr) :=
  of_fixed 0xC2 [loByte addr, hiByte addr] 2 rfl rfl rfl rfl
theorem jz (addr : Word) : Statement (.jz addr) := of_fixed 0xCA [loByte addr, hiByte addr] 2 rfl rfl rfl rfl
theorem jnc (addr : Word) : Statement (.jnc addr) :=
  of_fixed 0xD2 [loByte addr, hiByte addr] 2 rfl rfl rfl rfl
theorem jc (addr : Word) : Statement (.jc addr) := of_fixed 0xDA [loByte addr, hiByte addr] 2 rfl rfl rfl rfl
theorem jpo (addr : Word) : Statement (.jpo addr) :=
  of_fixed 0xE2 [loByte addr, hiByte addr] 2 rfl rfl rfl rfl
theorem jpe (addr : Word) : Statement (.jpe addr) :=
  of_fixed 0xEA [loByte addr, hiByte addr] 2 rfl rfl rfl rfl
theorem jp (addr : Word) : Statement (.jp addr) := of_fixed 0xF2 [loByte addr, hiByte addr] 2 rfl rfl rfl rfl
theorem jm (addr : Word) : Statement (.jm addr) := of_fixed 0xFA [loByte addr, hiByte addr] 2 rfl rfl rfl rfl
theorem call (addr : Word) : Statement (.call addr) :=
  of_fixed 0xCD [loByte addr, hiByte addr] 2 rfl rfl rfl rfl
theorem cnz (addr : Word) : Statement (.cnz addr) :=
  of_fixed 0xC4 [loByte addr, hiByte addr] 2 rfl rfl rfl rfl
theorem cz (addr : Word) : Statement (.cz addr) := of_fixed 0xCC [loByte addr, hiByte addr] 2 rfl rfl rfl rfl
theorem cnc (addr : Word) : Statement (.cnc addr) :=
  of_fixed 0xD4 [loByte addr, hiByte addr] 2 rfl rfl rfl rfl
theorem cc (addr : Word) : Statement (.cc addr) := of_fixed 0xDC [loByte addr, hiByte addr] 2 rfl rfl rfl rfl
theorem cpo (addr : Word) : Statement (.cpo addr) :=
  of_fixed 0xE4 [loByte addr, hiByte addr] 2 rfl rfl rfl rfl
theorem cpe (addr : Word) : Statement (.cpe addr) :=
  of_fixed 0xEC [loByte addr, hiByte addr] 2 rfl rfl rfl rfl
theorem cp (addr : Word) : Statement (.cp addr) := of_fixed 0xF4 [loByte addr, hiByte addr] 2 rfl rfl rfl rfl
theorem cm (addr : Word) : Statement (.cm addr) := of_fixed 0xFC [loByte addr, hiByte addr] 2 rfl rfl rfl rfl
theorem ret : Statement .ret := of_fixed 0xC9 [] 0 rfl rfl rfl rfl
theorem rnz : Statement .rnz := of_fixed 0xC0 [] 0 rfl rfl rfl rfl
theorem rz : Statement .rz := of_fixed 0xC8 [] 0 rfl rfl rfl rfl
theorem rnc : Statement .rnc := of_fixed 0xD0 [] 0 rfl rfl rfl rfl
theorem rc : Statement .rc := of_fixed 0xD8 [] 0 rfl rfl rfl rfl
theorem rpo : Statement .rpo := of_fixed 0xE0 [] 0 rfl rfl rfl rfl
theorem rpe : Statement .rpe := of_fixed 0xE8 [] 0 rfl rfl rfl rfl
theorem rp : Statement .rp := of_fixed 0xF0 [] 0 rfl rfl rfl rfl
theorem rm : Statement .rm := of_fixed 0xF8 [] 0 rfl rfl rfl rfl
theorem rst0 : Statement .rst0 := of_fixed 0xC7 [] 0 rfl rfl rfl rfl
theorem rst1 : Statement .rst1 := of_fixed 0xCF [] 0 rfl rfl rfl rfl
theorem rst2 : Statement .rst2 := of_fixed 0xD7 [] 0 rfl rfl rfl rfl
theorem rst3 : Statement .rst3 := of_fixed 0xDF [] 0 rfl rfl rfl rfl
theorem rst4 : Statement .rst4 := of_fixed 0xE7 [] 0 rfl rfl rfl rfl
theorem rst5 : Statement .rst5 := of_fixed 0xEF [] 0 rfl rfl rfl rfl
theorem rst6 : Statement .rst6 := of_fixed 0xF7 [] 0 rfl rfl rfl rfl
theorem rst7 : Statement .rst7 := of_fixed 0xFF [] 0 rfl rfl rfl rfl
theorem pchl : Statement .pchl := of_fixed 0xE9 [] 0 rfl rfl rfl rfl
theorem pushB : Statement .pushB := of_fixed 0xC5 [] 0 rfl rfl rfl rfl
theorem pushD : Statement .pushD := of_fixed 0xD5 [] 0 rfl rfl rfl rfl
theorem pushH : Statement .pushH := of_fixed 0xE5 [] 0 rfl rfl rfl rfl
theorem pushPSW : Statement .pushPSW := of_fixed 0xF5 [] 0 rfl rfl rfl rfl
theorem popB : Statement .popB := of_fixed 0xC1 [] 0 rfl rfl rfl rfl
theorem popD : Statement .popD := of_fixed 0xD1 [] 0 rfl rfl rfl rfl
theorem popH : Statement .popH := of_fixed 0xE1 [] 0 rfl rfl rfl rfl
theorem popPSW : Statement .popPSW := of_fixed 0xF1 [] 0 rfl rfl rfl rfl
theorem xthl : Statement .xthl := of_fixed 0xE3 [] 0 rfl rfl rfl rfl
theorem sphl : Statement .sphl := of_fixed 0xF9 [] 0 rfl rfl rfl rfl
theorem jmpCB (addr : Word) : Statement (.jmpCB addr) :=
  of_bytes 0xCB [loByte addr, hiByte addr] 2 rfl rfl fun cb h => by cases cb <;> first | rfl | exact Bool.noConfusion h
theorem retCB : Statement .retCB :=
  of_bytes 0xCB [] 0 rfl rfl fun cb h => by cases cb <;> first | rfl | exact Bool.noConfusion h
theorem retD9 : Statement .retD9 := of_fixed 0xD9 [] 0 rfl rfl rfl rfl
theorem callDD (addr : Word) : Statement (.callDD addr) :=
  of_fixed 0xDD [loByte addr, hiByte addr] 2 rfl rfl rfl rfl
theorem callED (addr : Word) : Statement (.callED addr) :=
  of_fixed 0xED [loByte addr, hiByte addr] 2 rfl rfl rfl rfl
theorem callFD (addr : Word) : Statement (.callFD addr) :=
  of_fixed 0xFD [loByte addr, hiByte addr] 2 rfl rfl rfl rfl
theorem hlt : Statement .hlt := of_fixed 0x76 [] 0 rfl rfl rfl rfl
theorem nop : Statement .nop := of_fixed 0x00 [] 0 rfl rfl rfl rfl
theorem nop08 : Statement .nop08 := of_fixed 0x08 [] 0 rfl rfl rfl rfl
theorem nop10 : Statement .nop10 := of_fixed 0x10 [] 0 rfl rfl rfl rfl
theorem nop18 : Statement .nop18 := of_fixed 0x18 [] 0 rfl rfl rfl rfl
theorem nop20 : Statement .nop20 := of_fixed 0x20 [] 0 rfl rfl rfl rfl
theorem nop28 : Statement .nop28 := of_fixed 0x28 [] 0 rfl rfl rfl rfl
theorem nop30 : Statement .nop30 := of_fixed 0x30 [] 0 rfl rfl rfl rfl
theorem nop38 : Statement .nop38 := of_fixed 0x38 [] 0 rfl rfl rfl rfl
theorem ei : Statement .ei := of_fixed 0xFB [] 0 rfl rfl rfl rfl
theorem di : Statement .di := of_fixed 0xF3 [] 0 rfl rfl rfl rfl
theorem inPort (port : Byte) : Statement (.inPort port) := of_fixed 0xDB [port] 1 rfl rfl rfl rfl
theorem outPort (port : Byte) : Statement (.outPort port) := of_fixed 0xD3 [port] 1 rfl rfl rfl rfl
theorem addB : Statement .addB := of_fixed 0x80 [] 0 rfl rfl rfl rfl
theorem addC : Statement .addC := of_fixed 0x81 [] 0 rfl rfl rfl rfl
theorem addD : Statement .addD := of_fixed 0x82 [] 0 rfl rfl rfl rfl
theorem addE : Statement .addE := of_fixed 0x83 [] 0 rfl rfl rfl rfl
theorem addH : Statement .addH := of_fixed 0x84 [] 0 rfl rfl rfl rfl
theorem addL : Statement .addL := of_fixed 0x85 [] 0 rfl rfl rfl rfl
theorem addA : Statement .addA := of_fixed 0x87 [] 0 rfl rfl rfl rfl
theorem addM : Statement .addM := of_fixed 0x86 [] 0 rfl rfl rfl rfl
theorem adi (imm : Byte) : Statement (.adi imm) := of_fixed 0xC6 [imm] 1 rfl rfl rfl rfl
theorem adcB : Statement .adcB := of_fixed 0x88 [] 0 rfl rfl rfl rfl
theorem adcC : Statement .adcC := of_fixed 0x89 [] 0 rfl rfl rfl rfl
theorem adcD : Statement .adcD := of_fixed 0x8A [] 0 rfl rfl rfl rfl
theorem adcE : Statement .adcE := of_fixed 0x8B [] 0 rfl rfl rfl rfl
theorem adcH : Statement .adcH := of_fixed 0x8C [] 0 rfl rfl rfl rfl
theorem adcL : Statement .adcL := of_fixed 0x8D [] 0 rfl rfl rfl rfl
theorem adcA : Statement .adcA := of_fixed 0x8F [] 0 rfl rfl rfl rfl
theorem adcM : Statement .adcM := of_fixed 0x8E [] 0 rfl rfl rfl rfl
theorem aci (imm : Byte) : Statement (.aci imm) := of_fixed 0xCE [imm] 1 rfl rfl rfl rfl
theorem subB : Statement .subB := of_fixed 0x90 [] 0 rfl rfl rfl rfl
theorem subC : Statement .subC := of_fixed 0x91 [] 0 rfl rfl rfl rfl
theorem subD : Statement .subD := of_fixed 0x92 [] 0 rfl rfl rfl rfl
theorem subE : Statement .subE := of_fixed 0x93 [] 0 rfl rfl rfl rfl
theorem subH : Statement .subH := of_fixed 0x94 [] 0 rfl rfl rfl rfl
theorem subL : Statement .subL := of_fixed 0x95 [] 0 rfl rfl rfl rfl
theorem subA : Statement .subA := of_fixed 0x97 [] 0 rfl rfl rfl rfl
theorem subM : Statement .subM := of_fixed 0x96 [] 0 rfl rfl rfl rfl
theorem sui (imm : Byte) : Statement (.sui imm) := of_fixed 0xD6 [imm] 1 rfl rfl rfl rfl
theorem sbbB : Statement .sbbB := of_fixed 0x98 [] 0 rfl rfl rfl rfl
theorem sbbC : Statement .sbbC := of_fixed 0x99 [] 0 rfl rfl rfl rfl
theorem sbbD : Statement .sbbD := of_fixed 0x9A [] 0 rfl rfl rfl rfl
theorem sbbE : Statement .sbbE := of_fixed 0x9B [] 0 rfl rfl rfl rfl
theorem sbbH : Statement .sbbH := of_fixed 0x9C [] 0 rfl rfl rfl rfl
theorem sbbL : Statement .sbbL := of_fixed 0x9D [] 0 rfl rfl rfl rfl
theorem sbbA : Statement .sbbA := of_fixed 0x9F [] 0 rfl rfl rfl rfl
theorem sbbM : Statement .sbbM := of_fixed 0x9E [] 0 rfl rfl rfl rfl
theorem sbi (imm : Byte) : Statement (.sbi imm) := of_fixed 0xDE [imm] 1 rfl rfl rfl rfl
theorem inrB : Statement .inrB := of_fixed 0x04 [] 0 rfl rfl rfl rfl
theorem inrC : Statement .inrC := of_fixed 0x0C [] 0 rfl rfl rfl rfl
theorem inrD : Statement .inrD := of_fixed 0x14 [] 0 rfl rfl rfl rfl
theorem inrE : Statement .inrE := of_fixed 0x1C [] 0 rfl rfl rfl rfl
theorem inrH : Statement .inrH := of_fixed 0x24 [] 0 rfl rfl rfl rfl
theorem inrL : Statement .inrL := of_fixed 0x2C [] 0 rfl rfl rfl rfl
theorem inrA : Statement .inrA := of_fixed 0x3C [] 0 rfl rfl rfl rfl
theorem inrM : Statement .inrM := of_fixed 0x34 [] 0 rfl rfl rfl rfl
theorem dcrB : Statement .dcrB := of_fixed 0x05 [] 0 rfl rfl rfl rfl
theorem dcrC : Statement .dcrC := of_fixed 0x0D [] 0 rfl rfl rfl rfl
theorem dcrD : Statement .dcrD := of_fixed 0x15 [] 0 rfl rfl rfl rfl
theorem dcrE : Statement .dcrE := of_fixed 0x1D [] 0 rfl rfl rfl rfl
theorem dcrH : Statement .dcrH := of_fixed 0x25 [] 0 rfl rfl rfl rfl
theorem dcrL : Statement .dcrL := of_fixed 0x2D [] 0 rfl rfl rfl rfl
theorem dcrA : Statement .dcrA := of_fixed 0x3D [] 0 rfl rfl rfl rfl
theorem dcrM : Statement .dcrM := of_fixed 0x35 [] 0 rfl rfl rfl rfl
theorem inxB : Statement .inxB := of_fixed 0x03 [] 0 rfl rfl rfl rfl
theorem inxD : Statement .inxD := of_fixed 0x13 [] 0 rfl rfl rfl rfl
theorem inxH : Statement .inxH := of_fixed 0x23 [] 0 rfl rfl rfl rfl
theorem inxSP : Statement .inxSP := of_fixed 0x33 [] 0 rfl rfl rfl rfl
theorem dcxB : Statement .dcxB := of_fixed 0x0B [] 0 rfl rfl rfl rfl
theorem dcxD : Statement .dcxD := of_fixed 0x1B [] 0 rfl rfl rfl rfl
theorem dcxH : Statement .dcxH := of_fixed 0x2B [] 0 rfl rfl rfl rfl
theorem dcxSP : Statement .dcxSP := of_fixed 0x3B [] 0 rfl rfl rfl rfl
theorem dadB : Statement .dadB := of_fixed 0x09 [] 0 rfl rfl rfl rfl
theorem dadD : Statement .dadD := of_fixed 0x19 [] 0 rfl rfl rfl rfl
theorem dadH : Statement .dadH := of_fixed 0x29 [] 0 rfl rfl rfl rfl
theorem dadSP : Statement .dadSP := of_fixed 0x39 [] 0 rfl rfl rfl rfl
theorem daa : Statement .daa := of_fixed 0x27 [] 0 rfl rfl rfl rfl

end Sys2Proof.Laws.EncodedBytes
end

