-- ==== Sys2Proof/Laws/Runs.lean ====
section
/-! SUPPORT. The run of several steps (70_reset_and_hazards.md R457, R459, R466), said once for each way a step ends. -/

namespace Sys2Proof.Machine

@[simp] theorem RunEnd.ofStep_next (s t : State) : RunEnd.ofStep s (.next t) = .stopped t := rfl

@[simp] theorem RunEnd.ofStep_fault (s : State) (f : Fault) : RunEnd.ofStep s (.fault f) = .faulted f (outEvents s) := rfl

@[simp] theorem RunEnd.ofStep_refused (s : State) (r : Refusal) : RunEnd.ofStep s (.refused r) = .refused r := rfl

@[simp] theorem RunEnd.stopped_andThen (t : State) (go : State → RunEnd) : (RunEnd.stopped t).andThen go = go t := rfl

@[simp] theorem RunEnd.faulted_andThen (f : Fault) (events : List (Byte × Byte)) (go : State → RunEnd) :
    (RunEnd.faulted f events).andThen go = .faulted f events := rfl

@[simp] theorem RunEnd.refused_andThen (r : Refusal) (go : State → RunEnd) :
    (RunEnd.refused r).andThen go = .refused r := rfl

theorem RunEnd.andThen_assoc (r : RunEnd) (f g : State → RunEnd) :
    (r.andThen f).andThen g = r.andThen fun t => (f t).andThen g := by
  cases r <;> rfl

@[simp] theorem runBatch_zero (s : State) : runBatch 0 s = .stopped s := by rw [runBatch]

theorem runBatch_halted {s : State} (h : s.run = .halted) (n : Nat) : runBatch n s = .stopped s := by
  cases n <;> simp [runBatch, h]

theorem runBatch_running {s : State} (h : s.run = .running) (n : Nat) :
    runBatch (n + 1) s = (RunEnd.ofStep s (step s)).andThen (runBatch n) := by
  simp [runBatch, h]

@[simp] theorem observe_stopped (s : State) : observe (.stopped s) = .ended (snapshot s) s.mem (outEvents s) := rfl

@[simp] theorem observe_faulted (f : Fault) (events : List (Byte × Byte)) :
    observe (.faulted f events) = .faulted f events := rfl

@[simp] theorem outEvents_portRead (p : Byte) (s : State) : outEvents (portRead p s).2 = outEvents s := by
  simp [outEvents, portRead_eq, outputsOf]

@[simp] theorem outEvents_portWrite (p v : Byte) (s : State) :
    outEvents (portWrite p v s) = outEvents s ++ [(p, v)] := by
  simp [outEvents, portWrite_eq, outputsOf]

end Sys2Proof.Machine
end

