-- ==== Sys2Proof/Tests/Slice0.lean ====
section
/-! SUPPORT. The model's own tests: the well-formedness smoke test, a word written out from the spec's bit patterns for
every constructor (30_encoding.md R135), the spec's test vectors, at most two for an instruction
(95_test_vectors.md), and for every statement with hypotheses a witness that meets them. Each expected result is the
spec's; no test runs more than one step. -/

namespace Sys2Proof.Tests

open Sys2Proof.Machine Sys2Proof.Safety Sys2Proof.Claims

/-! ### Well-formedness -/

/-- The one check: opcode 0xCB is the return under CB_ALIAS = RET only, and the jump under CB_ALIAS = JMP only (R131,
R340). Each is refused under the other setting. -/
theorem test_wellFormed_refuses_cb_under_the_other_setting :
    Instr.wellFormed .jmp .retCB = false ∧ Instr.wellFormed .ret (.jmpCB 0x1234) = false ∧
    Instr.wellFormed .ret .retCB = true ∧ Instr.wellFormed .jmp (.jmpCB 0x1234) = true := by decide

/-! ### Decoding, one word for every constructor

Each entry is the number of bits, the word with the first byte in bits 7..0, and the instruction. The opcode byte is
written in the bits of R135 with the fields of R124 to R127; operand bytes are 7F, or 34 12. -/

/-- Every word decodes to its instruction, and that instruction's bytes are the word's. -/
def decodes (words : List (Nat × Nat × Instr)) : Bool :=
  words.all fun x =>
    decide (decodeTableWord x.1 x.2.1 = some x.2.2) && decide (encode x.2.2 = (tableBytes x.1 x.2.1).take (x.1 / 8))

theorem test_decode_mov_b : decodes [
    (8, 0b01000000, .movBB), (8, 0b01000001, .movBC), (8, 0b01000010, .movBD), (8, 0b01000011, .movBE),
    (8, 0b01000100, .movBH), (8, 0b01000101, .movBL), (8, 0b01000110, .movBM), (8, 0b01000111, .movBA)] := by decide

theorem test_decode_mov_c : decodes [
    (8, 0b01001000, .movCB), (8, 0b01001001, .movCC), (8, 0b01001010, .movCD), (8, 0b01001011, .movCE),
    (8, 0b01001100, .movCH), (8, 0b01001101, .movCL), (8, 0b01001110, .movCM), (8, 0b01001111, .movCA)] := by decide

theorem test_decode_mov_d : decodes [
    (8, 0b01010000, .movDB), (8, 0b01010001, .movDC), (8, 0b01010010, .movDD), (8, 0b01010011, .movDE),
    (8, 0b01010100, .movDH), (8, 0b01010101, .movDL), (8, 0b01010110, .movDM), (8, 0b01010111, .movDA)] := by decide

theorem test_decode_mov_e : decodes [
    (8, 0b01011000, .movEB), (8, 0b01011001, .movEC), (8, 0b01011010, .movED), (8, 0b01011011, .movEE),
    (8, 0b01011100, .movEH), (8, 0b01011101, .movEL), (8, 0b01011110, .movEM), (8, 0b01011111, .movEA)] := by decide

theorem test_decode_mov_h : decodes [
    (8, 0b01100000, .movHB), (8, 0b01100001, .movHC), (8, 0b01100010, .movHD), (8, 0b01100011, .movHE),
    (8, 0b01100100, .movHH), (8, 0b01100101, .movHL), (8, 0b01100110, .movHM), (8, 0b01100111, .movHA)] := by decide

theorem test_decode_mov_l : decodes [
    (8, 0b01101000, .movLB), (8, 0b01101001, .movLC), (8, 0b01101010, .movLD), (8, 0b01101011, .movLE),
    (8, 0b01101100, .movLH), (8, 0b01101101, .movLL), (8, 0b01101110, .movLM), (8, 0b01101111, .movLA)] := by decide

theorem test_decode_mov_m : decodes [
    (8, 0b01110000, .movMB), (8, 0b01110001, .movMC), (8, 0b01110010, .movMD), (8, 0b01110011, .movME),
    (8, 0b01110100, .movMH), (8, 0b01110101, .movML), (8, 0b01110110, .hlt), (8, 0b01110111, .movMA)] := by decide

theorem test_decode_mov_a : decodes [
    (8, 0b01111000, .movAB), (8, 0b01111001, .movAC), (8, 0b01111010, .movAD), (8, 0b01111011, .movAE),
    (8, 0b01111100, .movAH), (8, 0b01111101, .movAL), (8, 0b01111110, .movAM), (8, 0b01111111, .movAA)] := by decide

theorem test_decode_add : decodes [
    (8, 0b10000000, .addB), (8, 0b10000001, .addC), (8, 0b10000010, .addD), (8, 0b10000011, .addE),
    (8, 0b10000100, .addH), (8, 0b10000101, .addL), (8, 0b10000110, .addM), (8, 0b10000111, .addA)] := by decide

theorem test_decode_adc : decodes [
    (8, 0b10001000, .adcB), (8, 0b10001001, .adcC), (8, 0b10001010, .adcD), (8, 0b10001011, .adcE),
    (8, 0b10001100, .adcH), (8, 0b10001101, .adcL), (8, 0b10001110, .adcM), (8, 0b10001111, .adcA)] := by decide

theorem test_decode_sub : decodes [
    (8, 0b10010000, .subB), (8, 0b10010001, .subC), (8, 0b10010010, .subD), (8, 0b10010011, .subE),
    (8, 0b10010100, .subH), (8, 0b10010101, .subL), (8, 0b10010110, .subM), (8, 0b10010111, .subA)] := by decide

theorem test_decode_sbb : decodes [
    (8, 0b10011000, .sbbB), (8, 0b10011001, .sbbC), (8, 0b10011010, .sbbD), (8, 0b10011011, .sbbE),
    (8, 0b10011100, .sbbH), (8, 0b10011101, .sbbL), (8, 0b10011110, .sbbM), (8, 0b10011111, .sbbA)] := by decide

theorem test_decode_ana : decodes [
    (8, 0b10100000, .anaB), (8, 0b10100001, .anaC), (8, 0b10100010, .anaD), (8, 0b10100011, .anaE),
    (8, 0b10100100, .anaH), (8, 0b10100101, .anaL), (8, 0b10100110, .anaM), (8, 0b10100111, .anaA)] := by decide

theorem test_decode_xra : decodes [
    (8, 0b10101000, .xraB), (8, 0b10101001, .xraC), (8, 0b10101010, .xraD), (8, 0b10101011, .xraE),
    (8, 0b10101100, .xraH), (8, 0b10101101, .xraL), (8, 0b10101110, .xraM), (8, 0b10101111, .xraA)] := by decide

theorem test_decode_ora : decodes [
    (8, 0b10110000, .oraB), (8, 0b10110001, .oraC), (8, 0b10110010, .oraD), (8, 0b10110011, .oraE),
    (8, 0b10110100, .oraH), (8, 0b10110101, .oraL), (8, 0b10110110, .oraM), (8, 0b10110111, .oraA)] := by decide

theorem test_decode_cmp : decodes [
    (8, 0b10111000, .cmpB), (8, 0b10111001, .cmpC), (8, 0b10111010, .cmpD), (8, 0b10111011, .cmpE),
    (8, 0b10111100, .cmpH), (8, 0b10111101, .cmpL), (8, 0b10111110, .cmpM), (8, 0b10111111, .cmpA)] := by decide

theorem test_decode_inr : decodes [
    (8, 0b00000100, .inrB), (8, 0b00001100, .inrC), (8, 0b00010100, .inrD), (8, 0b00011100, .inrE),
    (8, 0b00100100, .inrH), (8, 0b00101100, .inrL), (8, 0b00110100, .inrM), (8, 0b00111100, .inrA)] := by decide

theorem test_decode_dcr : decodes [
    (8, 0b00000101, .dcrB), (8, 0b00001101, .dcrC), (8, 0b00010101, .dcrD), (8, 0b00011101, .dcrE),
    (8, 0b00100101, .dcrH), (8, 0b00101101, .dcrL), (8, 0b00110101, .dcrM), (8, 0b00111101, .dcrA)] := by decide

theorem test_decode_mvi : decodes [
    (16, 0x7F00 + 0b00000110, (.mviB 0x7F)), (16, 0x7F00 + 0b00001110, (.mviC 0x7F)),
    (16, 0x7F00 + 0b00010110, (.mviD 0x7F)), (16, 0x7F00 + 0b00011110, (.mviE 0x7F)),
    (16, 0x7F00 + 0b00100110, (.mviH 0x7F)), (16, 0x7F00 + 0b00101110, (.mviL 0x7F)),
    (16, 0x7F00 + 0b00110110, (.mviM 0x7F)), (16, 0x7F00 + 0b00111110, (.mviA 0x7F))] := by decide

theorem test_decode_lxi : decodes [
    (24, 0x123400 + 0b00000001, (.lxiB 0x1234)), (24, 0x123400 + 0b00010001, (.lxiD 0x1234)),
    (24, 0x123400 + 0b00100001, (.lxiH 0x1234)), (24, 0x123400 + 0b00110001, (.lxiSP 0x1234))] := by decide

theorem test_decode_inx : decodes [
    (8, 0b00000011, .inxB), (8, 0b00010011, .inxD), (8, 0b00100011, .inxH), (8, 0b00110011, .inxSP)] := by decide

theorem test_decode_dcx : decodes [
    (8, 0b00001011, .dcxB), (8, 0b00011011, .dcxD), (8, 0b00101011, .dcxH), (8, 0b00111011, .dcxSP)] := by decide

theorem test_decode_dad : decodes [
    (8, 0b00001001, .dadB), (8, 0b00011001, .dadD), (8, 0b00101001, .dadH), (8, 0b00111001, .dadSP)] := by decide

theorem test_decode_pop : decodes [
    (8, 0b11000001, .popB), (8, 0b11010001, .popD), (8, 0b11100001, .popH), (8, 0b11110001, .popPSW)] := by decide

theorem test_decode_push : decodes [
    (8, 0b11000101, .pushB), (8, 0b11010101, .pushD), (8, 0b11100101, .pushH), (8, 0b11110101, .pushPSW)] := by decide

theorem test_decode_return_if : decodes [
    (8, 0b11000000, .rnz), (8, 0b11001000, .rz), (8, 0b11010000, .rnc), (8, 0b11011000, .rc), (8, 0b11100000, .rpo),
    (8, 0b11101000, .rpe), (8, 0b11110000, .rp), (8, 0b11111000, .rm)] := by decide

theorem test_decode_jump_if : decodes [
    (24, 0x123400 + 0b11000010, (.jnz 0x1234)), (24, 0x123400 + 0b11001010, (.jz 0x1234)),
    (24, 0x123400 + 0b11010010, (.jnc 0x1234)), (24, 0x123400 + 0b11011010, (.jc 0x1234)),
    (24, 0x123400 + 0b11100010, (.jpo 0x1234)), (24, 0x123400 + 0b11101010, (.jpe 0x1234)),
    (24, 0x123400 + 0b11110010, (.jp 0x1234)), (24, 0x123400 + 0b11111010, (.jm 0x1234))] := by decide

theorem test_decode_call_if : decodes [
    (24, 0x123400 + 0b11000100, (.cnz 0x1234)), (24, 0x123400 + 0b11001100, (.cz 0x1234)),
    (24, 0x123400 + 0b11010100, (.cnc 0x1234)), (24, 0x123400 + 0b11011100, (.cc 0x1234)),
    (24, 0x123400 + 0b11100100, (.cpo 0x1234)), (24, 0x123400 + 0b11101100, (.cpe 0x1234)),
    (24, 0x123400 + 0b11110100, (.cp 0x1234)), (24, 0x123400 + 0b11111100, (.cm 0x1234))] := by decide

theorem test_decode_rst : decodes [
    (8, 0b11000111, .rst0), (8, 0b11001111, .rst1), (8, 0b11010111, .rst2), (8, 0b11011111, .rst3),
    (8, 0b11100111, .rst4), (8, 0b11101111, .rst5), (8, 0b11110111, .rst6), (8, 0b11111111, .rst7)] := by decide

theorem test_decode_nop : decodes [
    (8, 0b00000000, .nop), (8, 0b00001000, .nop08), (8, 0b00010000, .nop10), (8, 0b00011000, .nop18),
    (8, 0b00100000, .nop20), (8, 0b00101000, .nop28), (8, 0b00110000, .nop30), (8, 0b00111000, .nop38)] := by decide

theorem test_decode_accumulator_and_hl_transfers : decodes [
    (8, 0b00000010, .staxB), (8, 0b00010010, .staxD), (8, 0b00001010, .ldaxB), (8, 0b00011010, .ldaxD),
    (24, 0x123400 + 0b00100010, (.shld 0x1234)), (24, 0x123400 + 0b00101010, (.lhld 0x1234)),
    (24, 0x123400 + 0b00110010, (.sta 0x1234)), (24, 0x123400 + 0b00111010, (.lda 0x1234))] := by decide

theorem test_decode_rotates_and_carry : decodes [
    (8, 0b00000111, .rlc), (8, 0b00001111, .rrc), (8, 0b00010111, .ral), (8, 0b00011111, .rar),
    (8, 0b00100111, .daa), (8, 0b00101111, .cma), (8, 0b00110111, .stc), (8, 0b00111111, .cmc)] := by decide

theorem test_decode_accumulator_immediates : decodes [
    (16, 0x7F00 + 0b11000110, (.adi 0x7F)), (16, 0x7F00 + 0b11001110, (.aci 0x7F)),
    (16, 0x7F00 + 0b11010110, (.sui 0x7F)), (16, 0x7F00 + 0b11011110, (.sbi 0x7F)),
    (16, 0x7F00 + 0b11100110, (.ani 0x7F)), (16, 0x7F00 + 0b11101110, (.xri 0x7F)),
    (16, 0x7F00 + 0b11110110, (.ori 0x7F)), (16, 0x7F00 + 0b11111110, (.cpi 0x7F))] := by decide

theorem test_decode_jmp_ret_call : decodes [
    (24, 0x123400 + 0b11000011, (.jmp 0x1234)), (8, 0b11001001, .ret), (8, 0b11001011, .retCB),
    (8, 0b11011001, .retD9), (24, 0x123400 + 0b11001101, (.call 0x1234)),
    (24, 0x123400 + 0b11011101, (.callDD 0x1234)), (24, 0x123400 + 0b11101101, (.callED 0x1234)),
    (24, 0x123400 + 0b11111101, (.callFD 0x1234))] := by decide

theorem test_decode_control_and_exchange : decodes [
    (16, 0x7F00 + 0b11010011, (.outPort 0x7F)), (16, 0x7F00 + 0b11011011, (.inPort 0x7F)), (8, 0b11100011, .xthl),
    (8, 0b11101001, .pchl), (8, 0b11101011, .xchg), (8, 0b11110011, .di), (8, 0b11111001, .sphl),
    (8, 0b11111011, .ei)] := by decide

/-- 0xCB with CB_ALIAS = JMP (R340), and bytes that hold no instruction. -/
theorem test_decode_other :
    decodeBytes .jmp [0xCB, 0x34, 0x12, 0x00] = .ok (.jmpCB 0x1234, [0x00]) ∧ encode (.jmpCB 0x1234) = [0xCB, 0x34, 0x12] ∧
    decodeBytes .ret [] = .error .noOpcode ∧ decodeBytes .ret [0xC3, 0x00] = .error (.missingOperand 0xC3) ∧
    decodeTableWord 7 0 = none := by decide

/-! ### The spec's vectors

The default start state of 95_test_vectors.md section 2, and the two outcomes of one step. -/

/-- SP = 2400, PC = 0100, everything else as at creation. -/
def start : State := { State.reset with sp := 0x2400, pc := 0x0100 }

/-- The start state with MEM_SIZE = 4000h. -/
def small : State := { start with params := { memSize := 0x4000, cbAlias := .ret } }

/-- The state with these bytes in memory. -/
def held (cells : List (Nat × Byte)) (s : State) : State :=
  { s with mem := cells.foldl (fun m c => m.write c.1 c.2) s.mem }

/-- The state with an instruction's bytes placed at PC. -/
def placed (s : State) (bytes : List Byte) : State := { s with mem := loadBytes bytes s.pc.toNat s.mem }

/-- One step from `s`, with the bytes at PC, changes exactly what `change` says. -/
def runs (s : State) (bytes : List Byte) (change : State → State) : Bool :=
  match step (placed s bytes) with
  | .next t => decide (t = change (placed s bytes))
  | .fault _ => false
  | .refused _ => false

/-- One step from `s`, with the bytes at PC, faults with this report. -/
def stops (s : State) (bytes : List Byte) (pc0 : Word) (opcode : Option Byte) : Bool :=
  match step (placed s bytes) with
  | .next _ => false
  | .fault f => decide (f = .outOfBoundsMemoryAccess pc0 opcode)
  | .refused _ => false

/-! #### Data transfer -/

/-- T1: MOV B,C. -/
theorem test_vector_T1_mov_b_c :
    runs ({ start with c := 0x5A }) [0x41] fun s => { s with b := 0x5A, pc := 0x0101 } := by decide

/-- T5: MOV H,M. -/
theorem test_vector_T5_mov_h_m :
    runs (held [(0x2000, 0x31)] { start with h := 0x20 }) [0x66]
      fun s => { s with h := 0x31, pc := 0x0101 } := by decide

/-- T6: MOV M,H. -/
theorem test_vector_T6_mov_m_h :
    runs ({ start with h := 0x20, l := 0x50 }) [0x74]
      fun s => held [(0x2050, 0x20)] { s with pc := 0x0101 } := by decide

/-- T7: MVI C,FFh. -/
theorem test_vector_T7_mvi_c_ffh :
    runs ({ start with flags := ⟨true, true, true, true, true⟩ }) [0x0E, 0xFF]
      fun s => { s with c := 0xFF, pc := 0x0102 } := by decide

/-- T8: MVI M,3Ch. -/
theorem test_vector_T8_mvi_m_3ch :
    runs ({ start with h := 0x30 }) [0x36, 0x3C] fun s => held [(0x3000, 0x3C)] { s with pc := 0x0102 } := by decide

/-- T9: LXI B,1234h. -/
theorem test_vector_T9_lxi_b_1234h :
    runs start [0x01, 0x34, 0x12] fun s => { s with b := 0x12, c := 0x34, pc := 0x0103 } := by decide

/-- T10: LXI SP,FFFFh. -/
theorem test_vector_T10_lxi_sp_ffffh :
    runs start [0x31, 0xFF, 0xFF] fun s => { s with sp := 0xFFFF, pc := 0x0103 } := by decide

/-- T12: LDA FFFFh. -/
theorem test_vector_T12_lda_ffffh :
    runs (held [(0xFFFF, 0x42)] start) [0x3A, 0xFF, 0xFF] fun s => { s with a := 0x42, pc := 0x0103 } := by decide

/-- T15: LDAX D. -/
theorem test_vector_T15_ldax_d :
    runs (held [(0x2001, 0x22)] { start with d := 0x20, e := 0x01 }) [0x1A]
      fun s => { s with a := 0x22, pc := 0x0101 } := by decide

/-- T16: STAX B. -/
theorem test_vector_T16_stax_b :
    runs ({ start with a := 0x99, b := 0x3F, c := 0x16 }) [0x02]
      fun s => held [(0x3F16, 0x99)] { s with pc := 0x0101 } := by decide

/-- T17: STAX D. -/
theorem test_vector_T17_stax_d :
    runs ({ start with a := 0x77, d := 0x3F, e := 0x17 }) [0x12]
      fun s => held [(0x3F17, 0x77)] { s with pc := 0x0101 } := by decide

/-- T19: LHLD FFFFh. -/
theorem test_vector_T19_lhld_ffffh :
    runs (held [(0x0000, 0x12), (0xFFFF, 0x34)] start) [0x2A, 0xFF, 0xFF]
      fun s => { s with h := 0x12, l := 0x34, pc := 0x0103 } := by decide

/-- T21: SHLD FFFFh. -/
theorem test_vector_T21_shld_ffffh :
    runs ({ start with h := 0xBE, l := 0xEF }) [0x22, 0xFF, 0xFF]
      fun s => held [(0x0000, 0xBE), (0xFFFF, 0xEF)] { s with pc := 0x0103 } := by decide

/-- T22: XCHG. -/
theorem test_vector_T22_xchg :
    runs ({ start with d := 0xAB, e := 0xCD, h := 0x12, l := 0x34 }) [0xEB]
      fun s => { s with d := 0x12, e := 0x34, h := 0xAB, l := 0xCD, pc := 0x0101 } := by decide

/-! #### Arithmetic -/

/-- A1: ADD B. -/
theorem test_vector_A1_add_b :
    runs ({ start with a := 0x3E, b := 0x02 }) [0x80]
      fun s => { s with a := 0x40, pc := 0x0101, flags := ⟨false, false, false, false, true⟩ } := by decide

/-- A2: ADD A. -/
theorem test_vector_A2_add_a :
    runs ({ start with a := 0x80 }) [0x87]
      fun s => { s with a := 0x00, pc := 0x0101, flags := ⟨true, false, true, true, false⟩ } := by decide

/-- A3: ADD C. -/
theorem test_vector_A3_add_c :
    runs ({ start with a := 0xFF, c := 0x01 }) [0x81]
      fun s => { s with a := 0x00, pc := 0x0101, flags := ⟨true, false, true, true, true⟩ } := by decide

/-- A4: ADD D. -/
theorem test_vector_A4_add_d :
    runs ({ start with a := 0x0F, d := 0x01 }) [0x82]
      fun s => { s with a := 0x10, pc := 0x0101, flags := ⟨false, false, false, false, true⟩ } := by decide

/-- A5: ADD M. -/
theorem test_vector_A5_add_m :
    runs (held [(0x2000, 0x2E)] { start with a := 0x6C, h := 0x20 }) [0x86]
      fun s => { s with a := 0x9A, pc := 0x0101, flags := ⟨false, true, true, false, true⟩ } := by decide

/-- A6: ADI 42h. -/
theorem test_vector_A6_adi_42h :
    runs ({ start with a := 0x14 }) [0xC6, 0x42]
      fun s => { s with a := 0x56, pc := 0x0102, flags := ⟨false, false, true, false, false⟩ } := by decide

/-- A7: ADC B. -/
theorem test_vector_A7_adc_b :
    runs ({ start with a := 0xFF, flags := ⟨false, false, false, true, false⟩ }) [0x88]
      fun s => { s with a := 0x00, pc := 0x0101, flags := ⟨true, false, true, true, true⟩ } := by decide

/-- A9: ADC C. -/
theorem test_vector_A9_adc_c :
    runs ({ start with a := 0x42, c := 0x3D, flags := ⟨false, false, false, true, false⟩ }) [0x89]
      fun s => { s with a := 0x80, pc := 0x0101, flags := ⟨false, true, false, false, true⟩ } := by decide

/-- A10: ADC M. -/
theorem test_vector_A10_adc_m :
    runs (held [(0x2000, 0x00)]
      { start with a := 0x0F, h := 0x20, flags := ⟨false, false, false, true, false⟩ }) [0x8E]
      fun s => { s with a := 0x10, pc := 0x0101, flags := ⟨false, false, false, false, true⟩ } := by decide

/-- A11: ACI BEh. -/
theorem test_vector_A11_aci_beh :
    runs ({ start with a := 0x56 }) [0xCE, 0xBE]
      fun s => { s with a := 0x14, pc := 0x0102, flags := ⟨false, false, true, true, true⟩ } := by decide

/-- A12: ACI 42h. -/
theorem test_vector_A12_aci_42h :
    runs ({ start with a := 0x14, flags := ⟨false, false, false, true, false⟩ }) [0xCE, 0x42]
      fun s => { s with a := 0x57, pc := 0x0102, flags := ⟨false, false, false, false, false⟩ } := by decide

/-- A13: SUB A. -/
theorem test_vector_A13_sub_a :
    runs ({ start with a := 0x3E, flags := ⟨false, false, false, true, true⟩ }) [0x97]
      fun s => { s with a := 0x00, pc := 0x0101, flags := ⟨true, false, true, false, true⟩ } := by decide

/-- A14: SUB B. -/
theorem test_vector_A14_sub_b :
    runs ({ start with b := 0x01 }) [0x90]
      fun s => { s with a := 0xFF, pc := 0x0101, flags := ⟨false, true, true, true, false⟩ } := by decide

/-- A15: SUB E. -/
theorem test_vector_A15_sub_e :
    runs ({ start with a := 0x10, e := 0x01 }) [0x93]
      fun s => { s with a := 0x0F, pc := 0x0101, flags := ⟨false, false, true, false, false⟩ } := by decide

/-- A16: SUB M. -/
theorem test_vector_A16_sub_m :
    runs (held [(0x2000, 0x01)] { start with a := 0x80, h := 0x20 }) [0x96]
      fun s => { s with a := 0x7F, pc := 0x0101 } := by decide

/-- A17: SUI 01h. -/
theorem test_vector_A17_sui_01h :
    runs start [0xD6, 0x01]
      fun s => { s with a := 0xFF, pc := 0x0102, flags := ⟨false, true, true, true, false⟩ } := by decide

/-- A18: SBB B. -/
theorem test_vector_A18_sbb_b :
    runs ({ start with b := 0xFF, flags := ⟨false, false, false, true, false⟩ }) [0x98]
      fun s => { s with pc := 0x0101, flags := ⟨true, false, true, true, false⟩ } := by decide

/-- A19: SBB L. -/
theorem test_vector_A19_sbb_l :
    runs ({ start with a := 0x04, l := 0x02, flags := ⟨false, false, false, true, false⟩ }) [0x9D]
      fun s => { s with a := 0x01, pc := 0x0101, flags := ⟨false, false, false, false, true⟩ } := by decide

/-- A20: SBB M. -/
theorem test_vector_A20_sbb_m :
    runs (held [(0x2000, 0x00)] { start with h := 0x20, flags := ⟨false, false, false, true, false⟩ }) [0x9E]
      fun s => { s with a := 0xFF, pc := 0x0101, flags := ⟨false, true, true, true, false⟩ } := by decide

/-- A21: SBI 01h. -/
theorem test_vector_A21_sbi_01h :
    runs start [0xDE, 0x01]
      fun s => { s with a := 0xFF, pc := 0x0102, flags := ⟨false, true, true, true, false⟩ } := by decide

/-- A22: SBI 01h. -/
theorem test_vector_A22_sbi_01h :
    runs ({ start with flags := ⟨false, false, false, true, false⟩ }) [0xDE, 0x01]
      fun s => { s with a := 0xFE, pc := 0x0102, flags := ⟨false, true, false, true, false⟩ } := by decide

/-- A23: INR B. -/
theorem test_vector_A23_inr_b :
    runs ({ start with b := 0xFF, flags := ⟨false, false, false, true, false⟩ }) [0x04]
      fun s => { s with b := 0x00, pc := 0x0101, flags := ⟨true, false, true, true, true⟩ } := by decide

/-- A24: INR C. -/
theorem test_vector_A24_inr_c :
    runs ({ start with c := 0x7F }) [0x0C]
      fun s => { s with c := 0x80, pc := 0x0101, flags := ⟨false, true, false, false, true⟩ } := by decide

/-- A25: INR A. -/
theorem test_vector_A25_inr_a :
    runs ({ start with a := 0x0F }) [0x3C]
      fun s => { s with a := 0x10, pc := 0x0101, flags := ⟨false, false, false, false, true⟩ } := by decide

/-- A26: INR M. -/
theorem test_vector_A26_inr_m :
    runs (held [(0x2000, 0x99)] { start with h := 0x20 }) [0x34]
      fun s => held [(0x2000, 0x9A)] { s with pc := 0x0101, flags := ⟨false, true, true, false, false⟩ } := by decide

/-- A27: DCR B. -/
theorem test_vector_A27_dcr_b :
    runs start [0x05]
      fun s => { s with b := 0xFF, pc := 0x0101, flags := ⟨false, true, true, false, false⟩ } := by decide

/-- A28: DCR D. -/
theorem test_vector_A28_dcr_d :
    runs ({ start with d := 0x01, flags := ⟨false, false, false, true, false⟩ }) [0x15]
      fun s => { s with d := 0x00, pc := 0x0101, flags := ⟨true, false, true, true, true⟩ } := by decide

/-- A29: DCR A. -/
theorem test_vector_A29_dcr_a :
    runs ({ start with a := 0x80 }) [0x3D] fun s => { s with a := 0x7F, pc := 0x0101 } := by decide

/-- A30: DCR M. -/
theorem test_vector_A30_dcr_m :
    runs (held [(0x3A7C, 0x40)] { start with h := 0x3A, l := 0x7C }) [0x35]
      fun s => held [(0x3A7C, 0x3F)] { s with pc := 0x0101, flags := ⟨false, false, true, false, false⟩ } := by decide

/-- A31: INX B. -/
theorem test_vector_A31_inx_b :
    runs ({ start with b := 0xFF, c := 0xFF }) [0x03]
      fun s => { s with b := 0x00, c := 0x00, pc := 0x0101 } := by decide

/-- A32: INX D. -/
theorem test_vector_A32_inx_d :
    runs ({ start with d := 0x38, e := 0xFF }) [0x13]
      fun s => { s with d := 0x39, e := 0x00, pc := 0x0101 } := by decide

/-- A33: INX SP. -/
theorem test_vector_A33_inx_sp :
    runs ({ start with sp := 0xFFFF }) [0x33] fun s => { s with sp := 0x0000, pc := 0x0101 } := by decide

/-- A34: DCX H. -/
theorem test_vector_A34_dcx_h :
    runs ({ start with h := 0x98 }) [0x2B] fun s => { s with h := 0x97, l := 0xFF, pc := 0x0101 } := by decide

/-- A35: DCX D. -/
theorem test_vector_A35_dcx_d :
    runs start [0x1B] fun s => { s with d := 0xFF, e := 0xFF, pc := 0x0101 } := by decide

/-- A36: DCX SP. -/
theorem test_vector_A36_dcx_sp :
    runs ({ start with sp := 0x0000 }) [0x3B] fun s => { s with sp := 0xFFFF, pc := 0x0101 } := by decide

/-- A37: DAD B. -/
theorem test_vector_A37_dad_b :
    runs ({ start with b := 0x33, c := 0x9F, h := 0xA1, l := 0x7B, flags := ⟨true, true, true, false, true⟩ }) [0x09]
      fun s => { s with h := 0xD5, l := 0x1A, pc := 0x0101 } := by decide

/-- A38: DAD D. -/
theorem test_vector_A38_dad_d :
    runs ({ start with e := 0x01, h := 0xFF, l := 0xFF }) [0x19]
      fun s => { s with h := 0x00, l := 0x00, pc := 0x0101, flags := ⟨false, false, false, true, false⟩ } := by decide

/-- A39: DAD H. -/
theorem test_vector_A39_dad_h :
    runs ({ start with h := 0x80 }) [0x29]
      fun s => { s with h := 0x00, pc := 0x0101, flags := ⟨false, false, false, true, false⟩ } := by decide

/-- A40: DAD SP. -/
theorem test_vector_A40_dad_sp :
    runs ({ start with l := 0x10 }) [0x39] fun s => { s with h := 0x24, pc := 0x0101 } := by decide

/-- A41: DAA. -/
theorem test_vector_A41_daa :
    runs ({ start with a := 0x9B }) [0x27]
      fun s => { s with a := 0x01, pc := 0x0101, flags := ⟨false, false, false, true, true⟩ } := by decide

/-- A45: DAA. -/
theorem test_vector_A45_daa :
    runs ({ start with a := 0x22, flags := ⟨false, false, false, true, false⟩ }) [0x27]
      fun s => { s with a := 0x82, pc := 0x0101, flags := ⟨false, true, true, true, false⟩ } := by decide

/-! #### Logical, compare, rotate -/

/-- L1: ANA B. -/
theorem test_vector_L1_ana_b :
    runs ({ start with a := 0xFC, b := 0x0F, flags := ⟨false, false, false, true, false⟩ }) [0xA0]
      fun s => { s with a := 0x0C, pc := 0x0101, flags := ⟨false, false, true, false, true⟩ } := by decide

/-- L2: ANA A. -/
theorem test_vector_L2_ana_a :
    runs ({ start with a := 0x80, flags := ⟨false, false, false, true, false⟩ }) [0xA7]
      fun s => { s with pc := 0x0101, flags := ⟨false, true, false, false, false⟩ } := by decide

/-- L3: ANA M. -/
theorem test_vector_L3_ana_m :
    runs (held [(0x2000, 0xAA)] { start with a := 0x55, h := 0x20 }) [0xA6]
      fun s => { s with a := 0x00, pc := 0x0101, flags := ⟨true, false, true, false, true⟩ } := by decide

/-- L4: ANI 0Fh. -/
theorem test_vector_L4_ani_0fh :
    runs ({ start with a := 0x3A }) [0xE6, 0x0F]
      fun s => { s with a := 0x0A, pc := 0x0102, flags := ⟨false, false, true, false, true⟩ } := by decide

/-- L5: ANI 00h. -/
theorem test_vector_L5_ani_00h :
    runs ({ start with a := 0x08 }) [0xE6, 0x00]
      fun s => { s with a := 0x00, pc := 0x0102, flags := ⟨true, false, true, false, true⟩ } := by decide

/-- L6: XRA A. -/
theorem test_vector_L6_xra_a :
    runs ({ start with a := 0xC7, flags := ⟨false, true, false, true, true⟩ }) [0xAF]
      fun s => { s with a := 0x00, pc := 0x0101, flags := ⟨true, false, true, false, false⟩ } := by decide

/-- L7: XRA B. -/
theorem test_vector_L7_xra_b :
    runs ({ start with a := 0xFF, b := 0x0F }) [0xA8]
      fun s => { s with a := 0xF0, pc := 0x0101, flags := ⟨false, true, true, false, false⟩ } := by decide

/-- L8: XRA M. -/
theorem test_vector_L8_xra_m :
    runs (held [(0x2000, 0x78)] { start with a := 0x5C, h := 0x20 }) [0xAE]
      fun s => { s with a := 0x24, pc := 0x0101, flags := ⟨false, false, true, false, false⟩ } := by decide

/-- L9: XRI FFh. -/
theorem test_vector_L9_xri_ffh :
    runs ({ start with flags := ⟨false, false, false, true, false⟩ }) [0xEE, 0xFF]
      fun s => { s with a := 0xFF, pc := 0x0102, flags := ⟨false, true, true, false, false⟩ } := by decide

/-- L10: ORA C. -/
theorem test_vector_L10_ora_c :
    runs ({ start with a := 0x33, c := 0x0F, flags := ⟨false, false, false, true, true⟩ }) [0xB1]
      fun s => { s with a := 0x3F, pc := 0x0101, flags := ⟨false, false, true, false, false⟩ } := by decide

/-- L11: ORA A. -/
theorem test_vector_L11_ora_a :
    runs ({ start with flags := ⟨false, false, false, true, false⟩ }) [0xB7]
      fun s => { s with pc := 0x0101, flags := ⟨true, false, true, false, false⟩ } := by decide

/-- L12: ORA M. -/
theorem test_vector_L12_ora_m :
    runs (held [(0x2000, 0x01)] { start with a := 0x80, h := 0x20 }) [0xB6]
      fun s => { s with a := 0x81, pc := 0x0101, flags := ⟨false, true, true, false, false⟩ } := by decide

/-- L13: ORI 0Fh. -/
theorem test_vector_L13_ori_0fh :
    runs ({ start with a := 0xB5 }) [0xF6, 0x0F]
      fun s => { s with a := 0xBF, pc := 0x0102, flags := ⟨false, true, false, false, false⟩ } := by decide

/-- L15: CMP E. -/
theorem test_vector_L15_cmp_e :
    runs ({ start with a := 0x02, e := 0x05 }) [0xBB]
      fun s => { s with pc := 0x0101, flags := ⟨false, true, false, true, false⟩ } := by decide

/-- L16: CMP E. -/
theorem test_vector_L16_cmp_e :
    runs ({ start with a := 0xE5, e := 0x05 }) [0xBB]
      fun s => { s with pc := 0x0101, flags := ⟨false, true, false, false, true⟩ } := by decide

/-- L17: CMP A. -/
theorem test_vector_L17_cmp_a :
    runs ({ start with a := 0x5B, flags := ⟨false, false, false, true, false⟩ }) [0xBF]
      fun s => { s with pc := 0x0101, flags := ⟨true, false, true, false, true⟩ } := by decide

/-- L18: CMP M. -/
theorem test_vector_L18_cmp_m :
    runs (held [(0x2000, 0x01)] { start with h := 0x20 }) [0xBE]
      fun s => { s with pc := 0x0101, flags := ⟨false, true, true, true, false⟩ } := by decide

/-- L20: CPI 40h. -/
theorem test_vector_L20_cpi_40h :
    runs ({ start with a := 0x40 }) [0xFE, 0x40]
      fun s => { s with pc := 0x0102, flags := ⟨true, false, true, false, true⟩ } := by decide

/-- L21: CPI 40h. -/
theorem test_vector_L21_cpi_40h :
    runs ({ start with a := 0x3F }) [0xFE, 0x40]
      fun s => { s with pc := 0x0102, flags := ⟨false, true, true, true, true⟩ } := by decide

/-- L22: RLC. -/
theorem test_vector_L22_rlc :
    runs ({ start with a := 0xF2 }) [0x07]
      fun s => { s with a := 0xE5, pc := 0x0101, flags := ⟨false, false, false, true, false⟩ } := by decide

/-- L23: RLC. -/
theorem test_vector_L23_rlc :
    runs ({ start with a := 0x80, flags := ⟨true, false, false, false, false⟩ }) [0x07]
      fun s => { s with a := 0x01, pc := 0x0101, flags := ⟨true, false, false, true, false⟩ } := by decide

/-- L24: RRC. -/
theorem test_vector_L24_rrc :
    runs ({ start with a := 0xF2 }) [0x0F] fun s => { s with a := 0x79, pc := 0x0101 } := by decide

/-- L25: RRC. -/
theorem test_vector_L25_rrc :
    runs ({ start with a := 0x01 }) [0x0F]
      fun s => { s with a := 0x80, pc := 0x0101, flags := ⟨false, false, false, true, false⟩ } := by decide

/-- L26: RAL. -/
theorem test_vector_L26_ral :
    runs ({ start with a := 0xB5 }) [0x17]
      fun s => { s with a := 0x6A, pc := 0x0101, flags := ⟨false, false, false, true, false⟩ } := by decide

/-- L27: RAL. -/
theorem test_vector_L27_ral :
    runs ({ start with flags := ⟨false, false, false, true, false⟩ }) [0x17]
      fun s => { s with a := 0x01, pc := 0x0101, flags := ⟨false, false, false, false, false⟩ } := by decide

/-- L28: RAR. -/
theorem test_vector_L28_rar :
    runs ({ start with a := 0x6A, flags := ⟨false, false, false, true, false⟩ }) [0x1F]
      fun s => { s with a := 0xB5, pc := 0x0101, flags := ⟨false, false, false, false, false⟩ } := by decide

/-- L29: RAR. -/
theorem test_vector_L29_rar :
    runs ({ start with a := 0x01 }) [0x1F]
      fun s => { s with a := 0x00, pc := 0x0101, flags := ⟨false, false, false, true, false⟩ } := by decide

/-- L30: CMA. -/
theorem test_vector_L30_cma :
    runs ({ start with a := 0xFF }) [0x2F] fun s => { s with a := 0x00, pc := 0x0101 } := by decide

/-- L31: CMC. -/
theorem test_vector_L31_cmc :
    runs ({ start with flags := ⟨false, false, false, true, false⟩ }) [0x3F]
      fun s => { s with pc := 0x0101, flags := ⟨false, false, false, false, false⟩ } := by decide

/-- L32: CMC. -/
theorem test_vector_L32_cmc :
    runs start [0x3F] fun s => { s with pc := 0x0101, flags := ⟨false, false, false, true, false⟩ } := by decide

/-- L33: STC. -/
theorem test_vector_L33_stc :
    runs ({ start with flags := ⟨false, false, false, true, false⟩ }) [0x37]
      fun s => { s with pc := 0x0101 } := by decide

/-! #### Branch, call, return, stack -/

/-- B1: JMP 3E00h. -/
theorem test_vector_B1_jmp_3e00h : runs start [0xC3, 0x00, 0x3E] fun s => { s with pc := 0x3E00 } := by decide

/-- B3: JNZ 1234h. -/
theorem test_vector_B3_jnz_1234h :
    runs ({ start with flags := ⟨true, false, false, false, false⟩ }) [0xC2, 0x34, 0x12]
      fun s => { s with pc := 0x0103 } := by decide

/-- B4: JNZ 1234h. -/
theorem test_vector_B4_jnz_1234h : runs start [0xC2, 0x34, 0x12] fun s => { s with pc := 0x1234 } := by decide

/-- B5: JC 1234h. -/
theorem test_vector_B5_jc_1234h :
    runs ({ start with flags := ⟨false, false, false, true, false⟩ }) [0xDA, 0x34, 0x12]
      fun s => { s with pc := 0x1234 } := by decide

/-- B6: JPO 1234h. -/
theorem test_vector_B6_jpo_1234h :
    runs ({ start with flags := ⟨false, false, true, false, false⟩ }) [0xE2, 0x34, 0x12]
      fun s => { s with pc := 0x0103 } := by decide

/-- B7: JPE 1234h. -/
theorem test_vector_B7_jpe_1234h :
    runs ({ start with flags := ⟨false, false, true, false, false⟩ }) [0xEA, 0x34, 0x12]
      fun s => { s with pc := 0x1234 } := by decide

/-- B8: JP 1234h. -/
theorem test_vector_B8_jp_1234h :
    runs ({ start with flags := ⟨false, true, false, false, false⟩ }) [0xF2, 0x34, 0x12]
      fun s => { s with pc := 0x0103 } := by decide

/-- B9: JM 1234h. -/
theorem test_vector_B9_jm_1234h :
    runs ({ start with flags := ⟨false, true, false, false, false⟩ }) [0xFA, 0x34, 0x12]
      fun s => { s with pc := 0x1234 } := by decide

/-- B10: JZ 0000h at FFFD. -/
theorem test_vector_B10_jz_0000h_at_fffd :
    runs ({ start with pc := 0xFFFD }) [0xCA, 0x00, 0x00] fun s => { s with pc := 0x0000 } := by decide

/-- B11: CALL 1234h. -/
theorem test_vector_B11_call_1234h :
    runs start [0xCD, 0x34, 0x12]
      fun s => held [(0x23FE, 0x03), (0x23FF, 0x01)] { s with sp := 0x23FE, pc := 0x1234 } := by decide

/-- B13: CALL 1234h. -/
theorem test_vector_B13_call_1234h :
    runs ({ start with sp := 0x0001 }) [0xCD, 0x34, 0x12]
      fun s => held [(0x0000, 0x01), (0xFFFF, 0x03)] { s with sp := 0xFFFF, pc := 0x1234 } := by decide

/-- B14: CNC 1234h. -/
theorem test_vector_B14_cnc_1234h :
    runs ({ start with flags := ⟨false, false, false, true, false⟩ }) [0xD4, 0x34, 0x12]
      fun s => { s with pc := 0x0103 } := by decide

/-- B15: CM 1234h. -/
theorem test_vector_B15_cm_1234h :
    runs ({ start with flags := ⟨false, true, false, false, false⟩ }) [0xFC, 0x34, 0x12]
      fun s => held [(0x23FE, 0x03), (0x23FF, 0x01)] { s with sp := 0x23FE, pc := 0x1234 } := by decide

/-- B17: RET. -/
theorem test_vector_B17_ret :
    runs (held [(0x0000, 0x56), (0xFFFF, 0x78)] { start with sp := 0xFFFF }) [0xC9]
      fun s => { s with sp := 0x0001, pc := 0x5678 } := by decide

/-- B18: RZ. -/
theorem test_vector_B18_rz :
    runs (held [(0x23FE, 0x03), (0x23FF, 0x01)] { start with sp := 0x23FE }) [0xC8]
      fun s => { s with pc := 0x0101 } := by decide

/-- B19: RPE. -/
theorem test_vector_B19_rpe :
    runs (held [(0x23FE, 0x03), (0x23FF, 0x01)]
      { start with sp := 0x23FE, flags := ⟨false, false, true, false, false⟩ }) [0xE8]
      fun s => { s with sp := 0x2400, pc := 0x0103 } := by decide

/-- B20: RST 0. -/
theorem test_vector_B20_rst_0 :
    runs start [0xC7]
      fun s => held [(0x23FE, 0x01), (0x23FF, 0x01)] { s with sp := 0x23FE, pc := 0x0000 } := by decide

/-- B21: RST 7. -/
theorem test_vector_B21_rst_7 :
    runs start [0xFF]
      fun s => held [(0x23FE, 0x01), (0x23FF, 0x01)] { s with sp := 0x23FE, pc := 0x0038 } := by decide

/-- B22: PCHL. -/
theorem test_vector_B22_pchl :
    runs ({ start with h := 0x41, l := 0x3E }) [0xE9] fun s => { s with pc := 0x413E } := by decide

/-- B24: PUSH H. -/
theorem test_vector_B24_push_h :
    runs ({ start with h := 0xBE, l := 0xEF, sp := 0x0000 }) [0xE5]
      fun s => held [(0xFFFE, 0xEF), (0xFFFF, 0xBE)] { s with sp := 0xFFFE, pc := 0x0101 } := by decide

/-- B26: PUSH PSW. -/
theorem test_vector_B26_push_psw :
    runs start [0xF5] fun s => held [(0x23FE, 0x02)] { s with sp := 0x23FE, pc := 0x0101 } := by decide

/-- B27: POP D. -/
theorem test_vector_B27_pop_d :
    runs (held [(0x1239, 0x3D), (0x123A, 0x93)] { start with sp := 0x1239 }) [0xD1]
      fun s => { s with d := 0x93, e := 0x3D, sp := 0x123B, pc := 0x0101 } := by decide

/-- B28: POP PSW. -/
theorem test_vector_B28_pop_psw :
    runs (held [(0x2C00, 0xFF), (0x2C01, 0x12)] { start with sp := 0x2C00 }) [0xF1]
      fun s => { s with a := 0x12, sp := 0x2C02, pc := 0x0101, flags := ⟨true, true, true, true, true⟩ } := by decide

/-- B30: POP PSW. -/
theorem test_vector_B30_pop_psw :
    runs (held [(0x2C00, 0x2A), (0x2C01, 0x00)] { start with sp := 0x2C00 }) [0xF1]
      fun s => { s with sp := 0x2C02, pc := 0x0101 } := by decide

/-- B31: XTHL. -/
theorem test_vector_B31_xthl :
    runs (held [(0x10AD, 0xF0), (0x10AE, 0x0D)] { start with h := 0x0B, l := 0x3C, sp := 0x10AD }) [0xE3]
      fun s => held [(0x10AD, 0x3C), (0x10AE, 0x0B)] { s with h := 0x0D, l := 0xF0, pc := 0x0101 } := by decide

/-- B32: SPHL. -/
theorem test_vector_B32_sphl :
    runs ({ start with h := 0x50, l := 0x6C }) [0xF9] fun s => { s with sp := 0x506C, pc := 0x0101 } := by decide

/-- B33: RET (CB). -/
theorem test_vector_B33_ret_cb :
    runs (held [(0x23FE, 0x03), (0x23FF, 0x01)] { start with sp := 0x23FE }) [0xCB]
      fun s => { s with sp := 0x2400, pc := 0x0103 } := by decide

/-- B34: JMP (CB). -/
theorem test_vector_B34_jmp_cb :
    runs (held [(0x23FE, 0x03), (0x23FF, 0x01)]
      { start with sp := 0x23FE, params := { memSize := 65536, cbAlias := .jmp } }) [0xCB, 0x00, 0x3E]
      fun s => { s with pc := 0x3E00 } := by decide

/-- B35: RET (D9). -/
theorem test_vector_B35_ret_d9 :
    runs (held [(0x23FE, 0x03), (0x23FF, 0x01)] { start with sp := 0x23FE }) [0xD9]
      fun s => { s with sp := 0x2400, pc := 0x0103 } := by decide

/-- B36: CALL (DD). -/
theorem test_vector_B36_call_dd :
    runs start [0xDD, 0x34, 0x12]
      fun s => held [(0x23FE, 0x03), (0x23FF, 0x01)] { s with sp := 0x23FE, pc := 0x1234 } := by decide

/-- B37: CALL (ED). -/
theorem test_vector_B37_call_ed :
    runs start [0xED, 0x34, 0x12]
      fun s => held [(0x23FE, 0x03), (0x23FF, 0x01)] { s with sp := 0x23FE, pc := 0x1234 } := by decide

/-- B38: CALL (FD). -/
theorem test_vector_B38_call_fd :
    runs start [0xFD, 0x34, 0x12]
      fun s => held [(0x23FE, 0x03), (0x23FF, 0x01)] { s with sp := 0x23FE, pc := 0x1234 } := by decide

/-! #### Control and I/O -/

/-- K2: NOP (08). -/
theorem test_vector_K2_nop_08 : runs start [0x08, 0xAA, 0xBB] fun s => { s with pc := 0x0101 } := by decide

/-- K3: NOP (10). -/
theorem test_vector_K3_nop_10 : runs start [0x10, 0xAA, 0xBB] fun s => { s with pc := 0x0101 } := by decide

/-- K4: NOP (18). -/
theorem test_vector_K4_nop_18 : runs start [0x18, 0xAA, 0xBB] fun s => { s with pc := 0x0101 } := by decide

/-- K5: NOP (20). -/
theorem test_vector_K5_nop_20 : runs start [0x20, 0xAA, 0xBB] fun s => { s with pc := 0x0101 } := by decide

/-- K6: NOP (28). -/
theorem test_vector_K6_nop_28 : runs start [0x28, 0xAA, 0xBB] fun s => { s with pc := 0x0101 } := by decide

/-- K7: NOP (30). -/
theorem test_vector_K7_nop_30 : runs start [0x30, 0xAA, 0xBB] fun s => { s with pc := 0x0101 } := by decide

/-- K8: NOP (38). -/
theorem test_vector_K8_nop_38 : runs start [0x38, 0xAA, 0xBB] fun s => { s with pc := 0x0101 } := by decide

/-- K9: HLT. -/
theorem test_vector_K9_hlt : runs start [0x76] fun s => { s with run := .halted, pc := 0x0101 } := by decide

/-- K10: (any) in HALTED. -/
theorem test_vector_K10_any_in_halted :
    runs ({ start with a := 0x01, run := .halted }) [0x3C] fun s => { s with pc := 0x0100 } := by decide

/-- K11: EI. -/
theorem test_vector_K11_ei : runs start [0xFB] fun s => { s with inte := true, pc := 0x0101 } := by decide

/-- K12: DI. -/
theorem test_vector_K12_di :
    runs ({ start with inte := true }) [0xF3] fun s => { s with inte := false, pc := 0x0101 } := by decide

/-- K13: IN 01h. -/
theorem test_vector_K13_in_01h :
    runs ({ start with a := 0x55 }) [0xDB, 0x01]
      fun s => { s with a := 0x00, pc := 0x0102, portLog := [.input 0x01 0x00] } := by decide

/-- A host that answers 7E on port 01 and 00 elsewhere, for ever. -/
def host7E : PortTable := (Vector.replicate 256 0x00).set 1 0x7E

/-- K14: IN 01h. -/
theorem test_vector_K14_in_01h :
    (let s := placed
      { start with a := 0x55, portHost := .fixed host7E, flags := ⟨true, true, true, true, true⟩ } [0xDB, 0x01]
     step s = .next { s with a := 0x7E, pc := 0x0102, portLog := [.input 0x01 0x7E] }) := rfl

/-- R99: the answer depends on the port, and a host that keeps the table answers what OUT sent to that port. -/
theorem test_ports_are_told_apart :
    hostAnswer (.fixed host7E) [] 0x01 = 0x7E ∧ hostAnswer (.fixed host7E) [] 0x02 = 0x00 ∧
    hostAnswer (hostAfterOutput (.table host7E) 0xFF 0x42) [] 0xFF = 0x42 ∧
    hostAnswer (hostAfterOutput (.table host7E) 0xFF 0x42) [] 0x01 = 0x7E ∧
    hostAnswer (.scripted [(0x02, 0x11), (0x01, 0x22), (0x01, 0x33)]) [] 0x01 = 0x22 ∧
    hostAfterInput (.scripted [(0x02, 0x11), (0x01, 0x22), (0x01, 0x33)]) 0x01 =
      .scripted [(0x02, 0x11), (0x01, 0x33)] := ⟨rfl, rfl, rfl, rfl, rfl, rfl⟩

/-- K15: OUT 10h. -/
theorem test_vector_K15_out_10h :
    runs ({ start with a := 0x42 }) [0xD3, 0x10]
      fun s => { s with pc := 0x0102, portLog := [.output 0x10 0x42] } := by decide

/-! #### Faults and bounds -/

/-- F1: MOV A,M. -/
theorem test_vector_F1_mov_a_m : stops ({ small with h := 0x40 }) [0x7E] 0x0100 (some 0x7E) := by decide

/-- F2: MOV A,M. -/
theorem test_vector_F2_mov_a_m :
    runs (held [(0x3FFF, 0x5A)] { small with h := 0x3F, l := 0xFF }) [0x7E]
      fun s => { s with a := 0x5A, pc := 0x0101 } := by decide

/-- F3: MOV M,A. -/
theorem test_vector_F3_mov_m_a : stops ({ small with h := 0xFF, l := 0xFF }) [0x77] 0x0100 (some 0x77) := by decide

/-- F4: STA 4000h. -/
theorem test_vector_F4_sta_4000h : stops small [0x32, 0x00, 0x40] 0x0100 (some 0x32) := by decide

/-- F5: LHLD 3FFFh. -/
theorem test_vector_F5_lhld_3fffh : stops small [0x2A, 0xFF, 0x3F] 0x0100 (some 0x2A) := by decide

/-- F6: SHLD 3FFFh. -/
theorem test_vector_F6_shld_3fffh :
    stops ({ small with h := 0x12, l := 0x34 }) [0x22, 0xFF, 0x3F] 0x0100 (some 0x22) := by decide

/-- F7: LDAX B. -/
theorem test_vector_F7_ldax_b : stops ({ small with b := 0x80 }) [0x0A] 0x0100 (some 0x0A) := by decide

/-- F8: PUSH B. -/
theorem test_vector_F8_push_b : stops ({ small with sp := 0x4001 }) [0xC5] 0x0100 (some 0xC5) := by decide

/-- F9: PUSH B. -/
theorem test_vector_F9_push_b :
    runs ({ small with b := 0x12, c := 0x34, sp := 0x4000 }) [0xC5]
      fun s => held [(0x3FFE, 0x34), (0x3FFF, 0x12)] { s with sp := 0x3FFE, pc := 0x0101 } := by decide

/-- F11: POP B. -/
theorem test_vector_F11_pop_b : stops ({ small with sp := 0x3FFF }) [0xC1] 0x0100 (some 0xC1) := by decide

/-- F12: RET. -/
theorem test_vector_F12_ret : stops ({ small with sp := 0x4000 }) [0xC9] 0x0100 (some 0xC9) := by decide

/-- F14: CZ 1234h. -/
theorem test_vector_F14_cz_1234h :
    runs ({ small with sp := 0x8000 }) [0xCC, 0x34, 0x12] fun s => { s with pc := 0x0103 } := by decide

/-- F15: CZ 1234h. -/
theorem test_vector_F15_cz_1234h :
    stops ({ small with sp := 0x8000, flags := ⟨true, false, false, false, false⟩ }) [0xCC, 0x34, 0x12] 0x0100 (some 0xCC) := by decide

/-- F16: RNZ. -/
theorem test_vector_F16_rnz :
    runs ({ small with sp := 0x8000, flags := ⟨true, false, false, false, false⟩ }) [0xC0]
      fun s => { s with pc := 0x0101 } := by decide

/-- F17: XTHL. -/
theorem test_vector_F17_xthl : stops ({ small with sp := 0x3FFF }) [0xE3] 0x0100 (some 0xE3) := by decide

/-- F19: NOP at 3FFE. -/
theorem test_vector_F19_nop_at_3ffe :
    stops ({ small with pc := 0x3FFE }) [0x00, 0x00] 0x3FFE (some 0x00) := by decide

/-- F20: HLT at 3FFF. -/
theorem test_vector_F20_hlt_at_3fff : stops ({ small with pc := 0x3FFF }) [0x76] 0x3FFF (some 0x76) := by decide

/-- F21: fetch at 4000. -/
theorem test_vector_F21_fetch_at_4000 : stops ({ small with pc := 0x4000 }) [] 0x4000 none := by decide

/-- F22: JMP 8000h. -/
theorem test_vector_F22_jmp_8000h : runs small [0xC3, 0x00, 0x80] fun s => { s with pc := 0x8000 } := by decide

/-- F23: NOP at FFFF, full memory. -/
theorem test_vector_F23_nop_at_ffff_full_memory :
    runs ({ start with pc := 0xFFFF }) [0x00] fun s => { s with pc := 0x0000 } := by decide

/-! ### The rest of the step -/

/-- A word placed where the next step fetches it is what that step runs, and RUN is RUNNING for it (log entry 6). -/
theorem test_withFetchWord_runs_the_word :
    (match step (State.withFetchWord { start with run := .halted } 24 0x123401) with
      | .next t => decide (t.b = 0x12 ∧ t.c = 0x34 ∧ t.pc = 0x0103 ∧ t.run = .running)
      | _ => false) = true := by decide

/-- The first step from reset, with nothing loaded, is a NOP (0x00, R362). -/
theorem test_first_step_from_reset_is_nop :
    (match step State.reset with
      | .next t => decide (t = { State.reset with pc := 0x0001 })
      | _ => false) = true := by decide

/-- Memory keeps its canonical form: rising addresses, no entry for a byte that is 0x00, equal memories equal lists. -/
theorem test_memory_is_canonical :
    (Memory.write (Memory.write [] 7 0xAA) 3 0xBB) = [(3, 0xBB), (7, 0xAA)] ∧
    Memory.write [(3, 0xBB), (7, 0xAA)] 3 0x00 = [(7, 0xAA)] ∧ Memory.wf [(3, 0xBB), (7, 0xAA)] = true ∧
    Memory.wf [(7, 0xAA), (3, 0xBB)] = false ∧ Memory.wf [(3, 0x00)] = false := by decide

/-- `load` writes up to the last byte below MEM_SIZE and is refused one byte further (R452). -/
theorem test_load_at_the_end_of_memory :
    load [0x01, 0x02] 0x3FFE small = .next { small with mem := [(0x3FFE, 0x01), (0x3FFF, 0x02)] } ∧
    load [0x01, 0x02] 0x3FFF small = .refused .misconfiguredLoad := ⟨rfl, rfl⟩

/-! ### A witness for every statement with hypotheses

`last` and `past` put an access on the last byte of memory and one byte further. -/

/-- M on the last byte of a memory of 4000h bytes. -/
def lastM : State := { small with h := 0x3F, l := 0xFF }

/-- M one byte past that memory. -/
def pastM : State := { small with h := 0x40 }

/-- The stack in the last two bytes: the next push is in range, and so is the next pop. -/
def lastPush : State := { small with sp := 0x4000 }
def lastPop : State := { small with sp := 0x3FFE }

/-- The next push writes one byte past memory; the next pop reads one. -/
def pastPush : State := { small with sp := 0x4001 }
def pastPop : State := { small with sp := 0x3FFF }

/-- The two hypotheses of `RunsWithin`: a state in which every address is in range, and one in which one is not. -/
abbrev Meets (inside : State) (near : List Word) (outside : State) (far : List Word) : Prop :=
  (∀ a ∈ near, inside.inRange a) ∧ ∃ a ∈ far, ¬ outside.inRange a

theorem meets {inside outside : State} {near far : List Word}
    (h : (near.all fun a => decide (inside.inRange a)) && (far.any fun a => decide (¬ outside.inRange a)) = true) :
    Meets inside near outside far := by
  simpa [Meets] using h

/-- The hypotheses for M. -/
abbrev MeetsM : Prop := Meets lastM [lastM.pair .hl] pastM [pastM.pair .hl]

/-- The hypotheses for a push: the high byte past the end, or, from SP = 1, the low byte at FFFF only. -/
abbrev MeetsPush : Prop :=
  Meets lastPush [lastPush.sp - 1, lastPush.sp - 2] pastPush [pastPush.sp - 1, pastPush.sp - 2] ∧
  Meets lastPush [lastPush.sp - 1, lastPush.sp - 2] small [(1 : Word) - 1, 1 - 2]

/-- The hypotheses for a pop. -/
abbrev MeetsPop : Prop := Meets lastPop [lastPop.sp, lastPop.sp + 1] pastPop [pastPop.sp, pastPop.sp + 1]

theorem test_witness_DecodingAnEncodedInstructionGivesItBack :
    Instr.wellFormed .ret .retCB = true ∧ Instr.wellFormed .jmp (.jmpCB 0xFFFF) = true ∧
    Instr.wellFormed .ret (.lxiB 0xFFFF) = true := by decide

theorem test_witness_UndeclaredOperandBytesHaveNoEffect :
    operandBytes (decode .ret 0x00 0xAA 0xBB) = 0 ∧ operandBytes (decode .ret 0xCB 0xAA 0xBB) = 0 ∧
    operandBytes (decode .ret 0x06 0xAA 0xBB) = 1 := by decide

theorem test_witness_StepRunsTheDecodedInstruction :
    let s := { small with pc := 0x3FFD }
    s.run = .running ∧ s.inRange s.pc ∧ s.inRange (s.pc + 1) ∧ s.inRange (s.pc + 2) := by decide

/-- The opcode, the second and the third byte one past the end in turn. -/
theorem test_witness_FetchFaultsOutsideMemory :
    let s0 := { small with pc := 0x4000 }
    let s1 := { small with pc := 0x3FFF }
    let s2 := { small with pc := 0x3FFE }
    s0.run = .running ∧ ¬ s0.inRange s0.pc ∧ s1.inRange s1.pc ∧ ¬ s1.inRange (s1.pc + 1) ∧
    s2.inRange s2.pc ∧ s2.inRange (s2.pc + 1) ∧ ¬ s2.inRange (s2.pc + 2) := by decide

theorem test_witness_HaltedStepChangesNothing : ({ start with run := .halted } : State).run = .halted := rfl

theorem test_witness_EveryStepCompletesInFullMemory : State.reset.params.memSize = 65536 := rfl

theorem test_witness_StepKeepsTheInvariant :
    Inv State.reset ∧ step State.reset = .next { State.reset with pc := 0x0001 } :=
  ⟨by decide, rfl⟩

theorem test_witness_OnlyHltHaltsAndOnlyEiDiWriteInte :
    exec .hlt start = .next { start with run := .halted, pc := 0x0101 } ∧
    exec .ei start = .next { start with inte := true, pc := 0x0101 } ∧
    exec .di start = .next { start with pc := 0x0101 } ∧
    (let s := { start with run := .halted }
     step s = .next s ∧ s.run = .halted) := ⟨rfl, rfl, rfl, rfl, rfl⟩

theorem test_witness_OnlyDaaAndPushPswReadAc :
    formOf .adcB ≠ .daa ∧ formOf .adcB ≠ .pushPSW := by decide

/-- STC writes CY only, CMC too; XRA writes all; INR leaves CY; NOP leaves all. -/
theorem test_witness_FlagsOutsideTheTableAreUntouched :
    (∃ t, exec .stc start = .next t) ∧ (flagsWritten (formOf .stc)).z = false ∧
    (flagsWritten (formOf .stc)).s = false ∧ (flagsWritten (formOf .stc)).p = false ∧
    (flagsWritten (formOf .stc)).ac = false ∧ formOf .stc = .stc ∧
    (∃ t, exec .cmc start = .next t) ∧ formOf .cmc = .cmc ∧
    (∃ t, exec .inrB start = .next t) ∧ (flagsWritten (formOf .inrB)).cy = false ∧
    (∃ t, exec .xraB start = .next t) ∧ formOf .xraB = .accR .xra .b ∧
    (∃ t, exec .anaM start = .next t) ∧ formOf .anaM = .accM .ana ∧
    (∃ t, exec (.ori 0) start = .next t) ∧ formOf (.ori 0) = .accI .ora 0 :=
  ⟨⟨_, rfl⟩, rfl, rfl, rfl, rfl, rfl, ⟨_, rfl⟩, rfl, ⟨_, rfl⟩, rfl, ⟨_, rfl⟩, rfl, ⟨_, rfl⟩, rfl, ⟨_, rfl⟩, rfl⟩

theorem test_witness_RegistersNotWrittenAreUnchanged :
    (∃ t, exec .xchg start = .next t) ∧ Reg.a ∉ regsWritten (formOf .xchg) := ⟨⟨_, rfl⟩, by decide⟩

theorem test_witness_BytesNotStoredToAreUnchanged :
    (∃ t, exec .pushB start = .next t) ∧ (0x2400 : Word) ∉ storeAddrs (formOf .pushB) start ∧
    (0x23FD : Word) ∉ storeAddrs (formOf .pushB) start := ⟨⟨_, rfl⟩, by decide, by decide⟩

theorem test_witness_StackPointerChangesOnlyAsStated : ∃ t, exec .popB start = .next t := ⟨_, rfl⟩

theorem test_witness_ParametersAndPortsChangeOnlyAsStated :
    (∃ t, exec (.inPort 1) { start with portHost := .scripted [(0x01, 0x7E)] } = .next t) ∧ (∃ t, exec (.outPort 1) start = .next t) :=
  ⟨⟨_, rfl⟩, ⟨_, rfl⟩⟩

theorem test_witness_ExactlyOneWriterOfPc :
    (∃ t, exec .nop start = .next t) ∧ pcPolicy .nop = .dispatcher ∧
    (∃ t, exec .ret start = .next t) ∧ pcPolicy .ret = .handler ∧
    (∃ t, exec (.jz 0x1234) start = .next t) ∧ pcPolicy (.jz 0x1234) = .handlerIfTaken :=
  ⟨⟨_, rfl⟩, rfl, ⟨_, rfl⟩, rfl, ⟨_, rfl⟩, rfl⟩

theorem test_witness_InstructionsFaultExactlyOnTheirAccesses :
    accessesInRange (formOf .movAM) lastM ∧ ¬ accessesInRange (formOf .movAM) pastM ∧
    accessesInRange (formOf .pushB) lastPush ∧ ¬ accessesInRange (formOf .pushB) pastPush := by
  simp [accessesInRange, formOf, loadAddrs, storeAddrs, pushAddrs, State.inRange, State.pair, State.reg, highReg, lowReg,
    assemble, lastM, pastM, lastPush, pastPush, small, start,
    State.reset, State.create]

theorem test_witness_ByteAccessesReadAndWriteTheirByte :
    small.inRange 0x3FFF ∧ ¬ small.inRange 0x4000 := by decide

theorem test_witness_WordsAreLittleEndian :
    (small.inRange 0x3FFE ∧ small.inRange (0x3FFE + 1)) ∧ (start.inRange 0xFFFF ∧ start.inRange (0xFFFF + 1)) ∧
    ¬ (small.inRange 0x3FFF ∧ small.inRange (0x3FFF + 1)) := by decide

theorem test_witness_PopUndoesPush :
    (lastPush.inRange (lastPush.sp - 1) ∧ lastPush.inRange (lastPush.sp - 2)) ∧
    (State.reset.inRange (State.reset.sp - 1) ∧ State.reset.inRange (State.reset.sp - 2)) := by decide

/-- PUSH, PUSH PSW, CALL and RST run at the top of memory; the state between push and pop is the state after the push;
a condition is false. -/
theorem test_witness_StackRoundTripLaws :
    (∃ t u : State, exec (instrOf (.push .bc)) lastPush = .next t ∧ u.sp = t.sp ∧ u.mem = t.mem ∧ u.params = t.params) ∧
    (∃ t, exec .pushPSW lastPush = .next t) ∧ (∃ t, exec (.call 0x1234) lastPush = .next t) ∧
    (∃ t, exec (instrOf (.rst .r7)) lastPush = .next t) ∧ ¬ condTrue .z start.flags :=
  ⟨⟨_, _, rfl, rfl, rfl, rfl⟩, ⟨_, rfl⟩, ⟨_, rfl⟩, ⟨_, rfl⟩, by simp [condTrue, start, State.reset, State.create, Flags.reset]⟩

theorem test_witness_LoadWritesItsBytesOrIsRefused :
    (0x3FFE : Word).toNat + [0x01, (0x02 : Byte)].length ≤ small.params.memSize ∧
    (0x3FFF : Word).toNat + [0x01, (0x02 : Byte)].length > small.params.memSize := by decide

/-- Both sides of the equivalence, ending in HALTED, in a fault and not at all; and a call in HALTED. -/
theorem test_witness_RunUntilHaltEndsInHaltedOrFault :
    runUntilHalt 1 (placed start [0x76]) = some (.stopped { placed start [0x76] with run := .halted, pc := 0x0101 }) ∧
    runUntilHalt 1 { small with pc := 0x4000 } = some (.faulted (.outOfBoundsMemoryAccess 0x4000 none) []) ∧
    runUntilHalt 1 start = none ∧ ({ start with run := .halted } : State).run = .halted := ⟨rfl, rfl, rfl, rfl⟩

/-- An OUT in the last three bytes of memory, then the fault of the next fetch: the report and the event before it; a batch
that ends before the fault; and a host that differs from the default one but answers alike. -/
theorem test_witness_RunsShowTheirOutEventsAndTheHostMattersByItsAnswers :
    let s := placed { small with pc := 0x3FFD, a := 0x42 } [0xD3, 0x10, 0x00]
    let t := { s with pc := 0x3FFF, portLog := [.output 0x10 0x42] }
    runBatch 1 s = .stopped t ∧ step t = .fault (.outOfBoundsMemoryAccess 0x3FFF (some 0x00)) ∧
    observe (runBatch 2 s) = .faulted (.outOfBoundsMemoryAccess 0x3FFF (some 0x00)) [(0x10, 0x42)] ∧
    (∀ p : Byte, hostAnswer (.scripted [(0x01, 0x00)]) start.portLog p = hostAnswer start.portHost start.portLog p) :=
  ⟨rfl, rfl, rfl, by decide⟩

/-! The hypotheses of `RunsWithin`, for the forms of each statement. -/

theorem test_witness_MovCopiesAByte : MeetsM := meets (by decide)

theorem test_witness_ImmediateLoadsWriteTheImmediate : MeetsM := meets (by decide)

theorem test_witness_AccumulatorLoadsAndStoresMoveOneByte :
    let bIn : State := { small with b := 0x3F, c := 0xFF }
    let bOut : State := { small with b := 0x40 }
    let dIn : State := { small with d := 0x3F, e := 0xFF }
    let dOut : State := { small with d := 0x40 }
    Meets small [0x3FFF] small [0x4000] ∧ Meets bIn [bIn.pair .bc] bOut [bOut.pair .bc] ∧
    Meets dIn [dIn.pair .de] dOut [dOut.pair .de] :=
  ⟨meets (by decide), meets (by decide), meets (by decide)⟩

theorem test_witness_LhldAndShldMoveHl : Meets small [0x3FFE, 0x3FFE + 1] small [0x3FFF, 0x3FFF + 1] :=
  meets (by decide)

theorem test_witness_XchgSwapsHlAndDe : ∃ t, exec .xchg start = .next t := ⟨_, rfl⟩

theorem test_witness_AddComputesTheSumAndAllFlags : MeetsM := meets (by decide)

theorem test_witness_AdcAndSbbUseTheIncomingCarry : MeetsM := meets (by decide)

theorem test_witness_SubComputesTheDifferenceAndAllFlags : MeetsM := meets (by decide)

theorem test_witness_InrAndDcrLeaveCarry : MeetsM := meets (by decide)

/-- 99 + 99 + 1. -/
theorem test_witness_AdcThenDaaAddsDecimalNumbers :
    let s := { start with a := 0x99, b := 0x99, flags := { start.flags with cy := true } }
    99 < 100 ∧ s.a = bcd 99 ∧ s.reg .b = bcd 99 ∧ ∃ t, exec (instrOf (.accR .adc .b)) s = .next t :=
  ⟨by decide, rfl, rfl, _, rfl⟩

theorem test_witness_AndClearsCarryAndSetsAcFromBitThree : MeetsM := meets (by decide)

theorem test_witness_XorAndOrClearCarryAndAc : MeetsM := meets (by decide)

theorem test_witness_CompareWritesOnlyTheFlags : MeetsM := meets (by decide)

/-- All flags 1, and all flags 0. -/
def ones : State := { start with flags := ⟨true, true, true, true, true⟩ }

/-- Each condition is true in one of two states and false in the other. -/
theorem test_witness_JumpsSetPcWhenTaken (cond : Cond) :
    (condTrue cond start.flags ∧ ¬ condTrue cond ones.flags) ∨
    (condTrue cond ones.flags ∧ ¬ condTrue cond start.flags) := by
  cases cond <;> simp [condTrue, ones, start, State.reset, State.create, Flags.reset]

theorem test_witness_CallsPushTheReturnAddress :
    MeetsPush ∧ Instr.call 0x1234 ∈ [Instr.call 0x1234, .callDD 0x1234, .callED 0x1234, .callFD 0x1234] ∧
    condTrue .nz start.flags ∧ ¬ condTrue .z start.flags :=
  ⟨⟨meets (by decide), meets (by decide)⟩, by decide, rfl,
    by simp [condTrue, start, State.reset, State.create, Flags.reset]⟩

theorem test_witness_ReturnsPopPc :
    MeetsPop ∧ Instr.retD9 ∈ [Instr.ret, .retD9] ∧ condTrue .nz start.flags ∧ ¬ condTrue .z start.flags :=
  ⟨meets (by decide), by decide, rfl, by simp [condTrue, start, State.reset, State.create, Flags.reset]⟩

theorem test_witness_OpcodeCbFollowsItsParameter : MeetsPop := meets (by decide)

theorem test_witness_RstCallsTheFixedVector : MeetsPush := ⟨meets (by decide), meets (by decide)⟩

theorem test_witness_PushAndPopMoveAPairAndSphlLoadsSp : MeetsPush ∧ MeetsPop :=
  ⟨⟨meets (by decide), meets (by decide)⟩, meets (by decide)⟩

theorem test_witness_PswAndXthlMoveTheTopOfTheStack : MeetsPush ∧ MeetsPop :=
  ⟨⟨meets (by decide), meets (by decide)⟩, meets (by decide)⟩

theorem test_witness_HltHaltsAndNopsOnlyAdvance :
    (∃ t, exec .hlt start = .next t) ∧ Instr.nop ∈ Instr.nop :: nopAliases ∧ Instr.nop38 ∈ Instr.nop :: nopAliases :=
  ⟨⟨_, rfl⟩, by decide, by decide⟩

/-- A host of each kind; a script that lists nothing for port 01, and one that lists it after another port. -/
theorem test_witness_InReadsAndOutWritesAPort :
    ({ start with portHost := .fixed host7E } : State).portHost = .fixed host7E ∧
    ({ start with portHost := .table host7E } : State).portHost = .table host7E ∧
    ({ start with portHost := .free 0 } : State).portHost = .free 0 ∧
    (start.portHost = .scripted [] ∧ ∀ x ∈ ([] : List (Byte × Byte)), x.1 ≠ 0x01) ∧
    (({ start with portHost := .scripted [(0x02, 0x11), (0x01, 0x7E)] } : State).portHost =
        .scripted ([(0x02, 0x11)] ++ (0x01, 0x7E) :: []) ∧ ∀ x ∈ [((0x02 : Byte), (0x11 : Byte))], x.1 ≠ 0x01) :=
  ⟨rfl, rfl, rfl, ⟨rfl, by simp⟩, rfl, by simp⟩

end Sys2Proof.Tests
end

section
/-! PROOF. The register pairs (10_state.md R35 to R37) and the packed flag byte (R55). -/

namespace Sys2Proof.Proofs.StateLaws

open Sys2Proof.Machine

/-! ### Register pairs -/

theorem highReg_ne_lowReg (p : Pair) : highReg p ≠ lowReg p := by cases p <;> decide

theorem pair_toNat (s : State) (p : Pair) :
    (s.pair p).toNat = 256 * (s.reg (highReg p)).toNat + (s.reg (lowReg p)).toNat :=
  assemble_toNat _ _

theorem reg_highReg_setPair (s : State) (p : Pair) (v : Word) : (s.setPair p v).reg (highReg p) = hiByte v := by
  simp [highReg_ne_lowReg]

theorem reg_lowReg_setPair (s : State) (p : Pair) (v : Word) : (s.setPair p v).reg (lowReg p) = loByte v := by
  simp

theorem reg_setPair_of_ne (s : State) (p : Pair) (v : Word) {r : Reg} (hhigh : r ≠ highReg p) (hlow : r ≠ lowReg p) :
    (s.setPair p v).reg r = s.reg r := by
  simp [hhigh, hlow]

/-- Settles O25, from what a pair write leaves in each register. -/
theorem pairsAreTheirTwoRegisters : Obligations.PairsAreTheirTwoRegisters := by
  intro s p v
  refine ⟨pair_toNat s p, State.pair_setPair s p v, ?_, ?_, fun r => reg_setPair_of_ne s p v⟩
  · rw [reg_highReg_setPair, hiByte_toNat]
  · rw [reg_lowReg_setPair, loByte_toNat]

/-! ### The flag byte -/

/-- A bit appended on the right doubles the value and adds the bit. -/
theorem append_bit_toNat {w : Nat} (x : BitVec w) (b : BitVec 1) : (x ++ b).toNat = 2 * x.toNat + b.toNat := by
  rw [BitVec.toNat_append, ← Nat.shiftLeft_add_eq_or_of_lt b.isLt, Nat.shiftLeft_eq]
  omega

/-- R55: the packed byte as the sum of its bits' weights. -/
theorem packFlags_toNat (f : Flags) :
    (packFlags f).toNat = 128 * f.s.toNat + 64 * f.z.toNat + 16 * f.ac.toNat + 4 * f.p.toNat + 2 + f.cy.toNat := by
  have hzero : (0 : BitVec 1).toNat = 0 := rfl
  have hone : (1 : BitVec 1).toNat = 1 := rfl
  simp only [packFlags, append_bit_toNat, BitVec.toNat_ofBool, hzero, hone]
  omega

/-- R56 after R55: each flag is read at the bit it was packed into. -/
theorem unpackFlags_packFlags (f : Flags) : unpackFlags (packFlags f) = f := by
  simp only [unpackFlags, packFlags, BitVec.getLsbD_append]
  simp

/-- Settles O26: the weights of the packed bits, and unpacking after packing. -/
theorem flagByteLayout : Obligations.FlagByteLayout :=
  fun f => ⟨packFlags_toNat f, unpackFlags_packFlags f⟩

end Sys2Proof.Proofs.StateLaws
end

section
/-! PROOF. The stack in memory (20_memory.md R93, R94, R97): what a push leaves to read at its two addresses, and that a
pop after it answers the word pushed. -/

namespace Sys2Proof.Proofs.MemoryLaws

open Sys2Proof.Machine Sys2Proof.Claims

/-! ### The bytes a push leaves -/

theorem word_sub_two_add_one (a : Word) : a - 2 + 1 = a - 1 := by bv_omega

theorem word_sub_one_ne_sub_two (a : Word) : a - 1 ≠ a - 2 := by
  rw [← word_sub_two_add_one]
  exact word_add_one_ne (a - 2)

theorem byteAt_onStack_high (s : State) (v : Word) : byteAt (onStack s v) (s.sp - 1) = hiByte v := by
  have hne : (s.sp - 1).toNat ≠ (s.sp - 2).toNat := fun h => word_sub_one_ne_sub_two s.sp (BitVec.eq_of_toNat_eq h)
  rw [byteAt, onStack, Memory.read_write, if_neg hne, Memory.read_write, if_pos rfl]

theorem byteAt_onStack_low (s : State) (v : Word) : byteAt (onStack s v) (s.sp - 2) = loByte v := by
  rw [byteAt, onStack, Memory.read_write, if_pos rfl]

/-! ### Push16 and Pop16 -/

theorem push16_of_inRange {s : State} (hhigh : s.inRange (s.sp - 1)) (hlow : s.inRange (s.sp - 2)) (v : Word) :
    push16 v s = some (onStack s v) := by
  rw [push16_eq, if_pos ⟨hhigh, hlow⟩]
  rfl

/-- R97: the pop may run in any state that has SP, the memory and the parameters as the push left them. -/
theorem pop16_of_onStack {s u : State} {v : Word} (hhigh : s.inRange (s.sp - 1)) (hlow : s.inRange (s.sp - 2))
    (hsp : u.sp = s.sp - 2) (hmem : u.mem = (onStack s v).mem) (hparams : u.params = s.params) :
    pop16 u = some (v, { u with sp := s.sp }) := by
  have hnext : u.sp + 1 = s.sp - 1 := by rw [hsp, word_sub_two_add_one]
  have hback : u.sp + 2 = s.sp := by rw [hsp, BitVec.sub_add_cancel]
  have hin : u.inRange u.sp ∧ u.inRange (u.sp + 1) := by
    rw [hnext, hsp, State.inRange, State.inRange, hparams]
    exact ⟨hlow, hhigh⟩
  have hhi : u.mem.read (u.sp + 1).toNat = hiByte v := by rw [hnext, hmem]; exact byteAt_onStack_high s v
  have hlo : u.mem.read u.sp.toNat = loByte v := by rw [hsp, hmem]; exact byteAt_onStack_low s v
  rw [pop16_eq, if_pos hin, hhi, hlo, assemble_bytes, hback]

/-! ### PUSH rp and POP rp -/

theorem exec_push_of_push16 {p : Pair} {s t : State} (h : push16 (s.pair p) s = some t) :
    exec (instrOf (.push p)) s = .next { t with pc := s.pc + 1 } := by
  have hform : exec (instrOf (.push p)) s = complete (instrOf (.push p)) (pushWord (s.pair p) s) s := by
    cases p <;> exact exec_eq _ s
  have hbytes : operandBytes (instrOf (.push p)) = 0 := by cases p <;> rfl
  rw [hform, pushWord, h, Option.bind_some, complete_leavePc, hbytes]
  rfl

theorem exec_pop_of_pop16 {p : Pair} {s t : State} {v : Word} (h : pop16 s = some (v, t)) :
    exec (instrOf (.pop p)) s = .next { t.setPair p v with pc := s.pc + 1 } := by
  have hform : exec (instrOf (.pop p)) s = complete (instrOf (.pop p)) (popPair p s) s := by
    cases p <;> exact exec_eq _ s
  have hbytes : operandBytes (instrOf (.pop p)) = 0 := by cases p <;> rfl
  rw [hform, popPair, h, Option.bind_some, complete_leavePc, hbytes]
  rfl

/-- Settles O24: the bytes a push leaves, and the pop after it, as operations and through PUSH rp and POP rp. -/
theorem popUndoesPush : Obligations.PopUndoesPush := by
  constructor
  · intro s v hhigh hlow
    exact ⟨onStack s v, push16_of_inRange hhigh hlow v, rfl, byteAt_onStack_high s v, byteAt_onStack_low s v,
      pop16_of_onStack hhigh hlow rfl rfl rfl⟩
  · intro p s hhigh hlow
    have hpop : pop16 { onStack s (s.pair p) with pc := s.pc + 1 } =
        some (s.pair p, { onStack s (s.pair p) with pc := s.pc + 1, sp := s.sp }) :=
      pop16_of_onStack hhigh hlow rfl rfl rfl
    refine ⟨_, _, exec_push_of_push16 (push16_of_inRange hhigh hlow _), exec_pop_of_pop16 hpop, ?_, ?_⟩
    · rw [State.pair_updatePc, State.pair_setPair]
    · exact State.setPair_sp _ p (s.pair p)

end Sys2Proof.Proofs.MemoryLaws
end

section
/-! PROOF. The operand bytes an entry of the opcode map declares (30_encoding.md R129, R130, R141): the entry's format
says how many, its instruction's encoding has as many, and the entry reads no others. -/

namespace Sys2Proof.Proofs.DeclaredOperands

/-! ### The bytes an entry reads -/

theorem read_of_operands_zero {e : Entry} (h : e.operands = 0) (b2 b3 c2 c3 : Byte) :
    e.read c2 c3 = e.read b2 b3 := by
  cases e with
  | f1 _ => rfl
  | f2 _ => cases h
  | f3 _ => cases h

theorem read_of_operands_one {e : Entry} (h : e.operands = 1) (b2 b3 c3 : Byte) :
    e.read b2 c3 = e.read b2 b3 := by
  cases e with
  | f1 _ => cases h
  | f2 _ => rfl
  | f3 _ => cases h

/-! ### The format of an entry and the encoding of its instruction -/

/-- Row by row, the operand bytes of the encodings are those of the formats. The value of an operand byte does not
enter the length of an encoding, so both sides compute with `b2` and `b3` left open. -/
theorem opcodeMap_operandBytes (cb : CbAlias) (b2 b3 : Byte) :
    (opcodeMap cb).toList.map (fun row => row.toList.map fun e => operandBytes (e.read b2 b3)) =
      (opcodeMap cb).toList.map fun row => row.toList.map Entry.operands := by
  cases cb <;> rfl

theorem operandBytes_read {cb : CbAlias} {row : Vector Entry 16} {e : Entry} (hrow : row ∈ opcodeMap cb)
    (he : e ∈ row) (b2 b3 : Byte) : operandBytes (e.read b2 b3) = e.operands :=
  have hcounts := List.map_inj_left.mp (opcodeMap_operandBytes cb b2 b3) row (Vector.mem_toList_iff.mpr hrow)
  List.map_inj_left.mp hcounts e (Vector.mem_toList_iff.mpr he)

theorem operandBytes_decode (cb : CbAlias) (op b2 b3 : Byte) :
    operandBytes (decode cb op b2 b3) = (entryOf cb op).operands :=
  operandBytes_read (Vector.getElem_mem _) (Vector.getElem_mem _) b2 b3

/-- Settles O4: the declared operand bytes are the format's, and an entry reads no others. -/
theorem undeclaredOperandBytesHaveNoEffect : Obligations.UndeclaredOperandBytesHaveNoEffect := by
  intro cb op b2 b3 c2 c3
  rw [operandBytes_decode]
  exact ⟨fun h => read_of_operands_zero h b2 b3 c2 c3, fun h => read_of_operands_one h b2 b3 c3⟩

end Sys2Proof.Proofs.DeclaredOperands
end

section
/-! PROOF. HLT, NOP and the seven NOP aliases (44_control_io.md R361 to R363): one-byte instructions whose handler leaves
PC to the dispatcher, and the step that follows a halt. -/

namespace Sys2Proof.Proofs.HaltAndNop

open Sys2Proof.Machine Sys2Proof.Claims

/-! ### One-byte instructions that leave PC to the dispatcher -/

theorem exec_of_leavePc {i : Instr} {s t : State} (hform : formHandler (formOf i) s = leavePc t)
    (hbytes : operandBytes i = 0) : exec i s = .next { t with pc := s.pc + 1 } := by
  rw [exec_eq, hform, complete_leavePc, hbytes]
  rfl

/-! ### HLT -/

theorem exec_hlt (s : State) : exec .hlt s = .next { s with run := .halted, pc := s.pc + 1 } :=
  exec_of_leavePc (t := { s with run := .halted }) rfl rfl

theorem step_of_halted {s : State} (h : s.run = .halted) : step s = .next s := by
  rw [step, h]

/-- R361: after a halt the machine stays where it is. -/
theorem step_after_hlt {s t : State} (h : exec .hlt s = .next t) : step t = .next t := by
  have ht : t.run = .halted := by
    rw [exec_hlt, Host.Outcome.next.injEq] at h
    rw [← h]
  exact step_of_halted ht

/-! ### NOP and its aliases -/

/-- R363: an alias is NOP in every respect, its form and its length included. -/
theorem formOf_and_operandBytes_nopAliases :
    ∀ i ∈ Instr.nop :: nopAliases, formOf i = .nop ∧ operandBytes i = 0 := by decide

theorem exec_nopAliases {i : Instr} (hi : i ∈ Instr.nop :: nopAliases) (s : State) :
    exec i s = .next { s with pc := s.pc + 1 } := by
  obtain ⟨hform, hbytes⟩ := formOf_and_operandBytes_nopAliases i hi
  exact exec_of_leavePc (congrArg (formHandler · s) hform) hbytes

/-- Settles O57: the HLT and NOP equations, with the step that follows a halt. -/
theorem hltHaltsAndNopsOnlyAdvance : Obligations.HltHaltsAndNopsOnlyAdvance := by
  intro s
  exact ⟨rfl, exec_hlt s, fun _ => step_after_hlt, rfl, rfl, fun _ hi => exec_nopAliases hi s⟩

end Sys2Proof.Proofs.HaltAndNop
end

section
/-! PROOF. Batches of steps (70_reset_and_hazards.md R459): a batch splits at any of its steps, and a batch of one is a
single step. -/

namespace Sys2Proof.Proofs.Batches

open Sys2Proof.Machine Sys2Proof.Proofs.HaltAndNop

theorem andThen_stopped (r : RunEnd) : r.andThen .stopped = r := by
  cases r <;> rfl

/-- By induction on the first batch. In HALTED neither side makes a step; in RUNNING both make the same one, and the
induction hypothesis splits what follows it. -/
theorem runBatch_add (m n : Nat) (s : State) : runBatch (m + n) s = (runBatch m s).andThen (runBatch n) := by
  induction m generalizing s with
  | zero => rw [Nat.zero_add, runBatch_zero, RunEnd.stopped_andThen]
  | succ m ih =>
    cases h : s.run with
    | halted => simp only [runBatch_halted h, RunEnd.stopped_andThen]
    | running =>
      calc runBatch (m + 1 + n) s
        _ = (RunEnd.ofStep s (step s)).andThen (runBatch (m + n)) := by rw [Nat.add_right_comm, runBatch_running h]
        _ = (RunEnd.ofStep s (step s)).andThen fun t => (runBatch m t).andThen (runBatch n) := by rw [funext ih]
        _ = (runBatch (m + 1) s).andThen (runBatch n) := by rw [runBatch_running h, RunEnd.andThen_assoc]

/-- R144: a step in HALTED changes nothing, so that a batch of one is a step there too. -/
theorem runBatch_one (s : State) : runBatch 1 s = RunEnd.ofStep s (step s) := by
  cases h : s.run with
  | halted => rw [runBatch_halted h, step_of_halted h, RunEnd.ofStep_next]
  | running => rw [runBatch_running h, funext runBatch_zero, andThen_stopped]

/-- Settles O29: batches compose, and a batch of one is a step. -/
theorem batchesOfStepsCompose : Obligations.BatchesOfStepsCompose :=
  ⟨runBatch_add, runBatch_one⟩

end Sys2Proof.Proofs.Batches
end

section
/-! PROOF. The outcome of an instruction, through its form (Laws/Effects.lean): the next state when every access is in
range, the one fault when one is not. The proofs about instructions go through this and unfold no handler. -/

namespace Sys2Proof.Proofs.Outcomes

open Sys2Proof.Machine Sys2Proof.Safety Sys2Proof.Claims

/-! ### The length of an instruction, and its form -/

/-- How many operand bytes the instructions of a form have (R120). -/
def formOperands : Form → Nat
  | .mviR _ _ | .mviM _ | .accI _ _ | .inPort _ | .outPort _ => 1
  | .lxi _ _ | .lxiSP _ | .lda _ | .sta _ | .lhld _ | .shld _ | .jmp _ | .jcc _ _ | .call _ | .ccc _ _ => 2
  | _ => 0

theorem operandBytes_eq (i : Instr) : operandBytes i = formOperands (formOf i) := by
  cases i <;> rfl

/-- The documented instruction of a form has that form. The fields of a form are split because `instrOf` reads them. -/
theorem formOf_instrOf (f : Form) : formOf (instrOf f) = f := by
  cases f with
  | movRR dst src => cases dst <;> cases src <;> rfl
  | movRM r | movMR r | mviR r _ | inrR r | dcrR r => cases r <;> rfl
  | accR op src => cases op <;> cases src <;> rfl
  | accM op | accI op _ => cases op <;> rfl
  | lxi p _ | push p | pop p | inx p | dcx p | dad p => cases p <;> rfl
  | jcc cond _ | ccc cond _ | rcc cond => cases cond <;> rfl
  | rst n => cases n <;> rfl
  | _ => rfl

/-! ### The next state, or the fault -/

/-- The state an instruction of form `f` leaves when it completes: the form's effect, with the handler's or the
dispatcher's PC (R142). -/
def stateAfter (f : Form) (s : State) : State :=
  { effect f s with pc := (branchTarget f s).getD (s.pc + BitVec.ofNat 16 (1 + formOperands f)) }

theorem exec_of_inRange {i : Instr} {s : State} (h : accessesInRange (formOf i) s) :
    exec i s = .next (stateAfter (formOf i) s) := by
  rw [exec_next]
  refine ⟨_, (formHandler_eq _ s).trans (if_pos h), ?_⟩
  rw [operandBytes_eq, stateAfter]

theorem exec_of_not_inRange {i : Instr} {s : State} (h : ¬ accessesInRange (formOf i) s) :
    exec i s = .fault (.outOfBoundsMemoryAccess s.pc (some (opcodeOf i))) := by
  rw [exec_eq, formHandler_eq, if_neg h, complete_none]

theorem exec_next_iff {i : Instr} {s t : State} :
    exec i s = .next t ↔ accessesInRange (formOf i) s ∧ t = stateAfter (formOf i) s := by
  by_cases h : accessesInRange (formOf i) s
  · rw [exec_of_inRange h, Host.Outcome.next.injEq, eq_comm, and_iff_right h]
  · rw [exec_of_not_inRange h]
    exact ⟨nofun, fun hall => absurd hall.1 h⟩

/-- Settles O21: both outcomes, by whether every access is in range. -/
theorem instructionsFaultExactlyOnTheirAccesses : Obligations.InstructionsFaultExactlyOnTheirAccesses :=
  fun _ _ => ⟨fun h => ⟨_, exec_of_inRange h⟩, exec_of_not_inRange⟩

/-! ### The two shapes of a statement about one form -/

/-- A form without an access after its fetch always completes. -/
theorem exec_of_noAccess {i : Instr} {f : Form} {s t : State} (hform : formOf i = f) (hload : loadAddrs f s = [])
    (hstore : storeAddrs f s = []) (hafter : stateAfter f s = t) : exec i s = .next t := by
  subst hform hafter
  exact exec_of_inRange (by simp [accessesInRange, hload, hstore])

/-- A form that accesses the addresses `addrs` completes exactly when they are in range. -/
theorem runsWithin_of_form {i : Instr} {f : Form} {s t : State} {addrs : List Word} (hform : formOf i = f)
    (haddrs : ∀ a, a ∈ addrs ↔ a ∈ loadAddrs f s ++ storeAddrs f s) (hafter : stateAfter f s = t) :
    RunsWithin i s addrs t := by
  subst hform hafter
  have hrange : accessesInRange (formOf i) s ↔ ∀ a ∈ addrs, s.inRange a := by
    simp only [haddrs, List.forall_mem_append]
  refine ⟨fun h => exec_of_inRange (hrange.mpr h), fun ⟨a, ha, hout⟩ => exec_of_not_inRange fun h => ?_⟩
  exact hout (hrange.mp h a ha)

end Sys2Proof.Proofs.Outcomes
end

section
/-! PROOF. The decoder and the encoder (30_encoding.md R120 to R134). Both directions come from three tables over the
opcode map: the opcode byte and operand bytes of each entry's instruction, their number by the bit tests of R129, and
the well-formedness of the instruction. -/

namespace Sys2Proof.Proofs.Encoding

open Sys2Proof.Proofs.DeclaredOperands

/-! ### An entry and its operand -/

/-- The instruction of an entry for an operand byte `b` or an operand word `w`, whichever the entry's format has. -/
def build (b : Byte) (w : Word) : Entry → Instr
  | .f1 i => i
  | .f2 k => k b
  | .f3 k => k w

/-- The operand bytes of `build b w` (R121, R122, R123). -/
def operandList (b : Byte) (w : Word) : Entry → List Byte
  | .f1 _ => []
  | .f2 _ => [b]
  | .f3 _ => [loByte w, hiByte w]

theorem read_eq_build (e : Entry) (b2 b3 : Byte) : e.read b2 b3 = build b2 (assemble b3 b2) e := by
  cases e <;> rfl

theorem operandList_assemble (e : Entry) (b2 b3 : Byte) :
    operandList b2 (assemble b3 b2) e = [b2, b3].take e.operands := by
  cases e <;> simp [operandList, Entry.operands]

theorem decodeBytes_build (cb : CbAlias) (op b : Byte) (w : Word) (rest : List Byte) :
    decodeBytes cb (op :: operandList b w (entryOf cb op) ++ rest) = .ok (build b w (entryOf cb op), rest) := by
  cases h : entryOf cb op with
  | f1 i => simp [decodeBytes, h, operandList, build]
  | f2 k => simp [decodeBytes, h, operandList, build]
  | f3 k => simp [decodeBytes, h, operandList, build]

/-! ### The opcode map, entry by entry -/

/-- The values of a function on all bytes, row by row as the map is printed (R130). -/
def byRows {α : Type} (f : Byte → α) : List (List α) :=
  (List.range 16).map fun row => (List.range 16).map fun col => f (BitVec.ofNat 8 (16 * row + col))

theorem eq_of_byRows_eq {α : Type} {f g : Byte → α} (h : byRows f = byRows g) (op : Byte) : f op = g op := by
  have hrow := List.map_inj_left.mp h (op.toNat / 16) (List.mem_range.mpr (by have := op.isLt; omega))
  have hcol := List.map_inj_left.mp hrow (op.toNat % 16) (List.mem_range.mpr (Nat.mod_lt _ (by decide)))
  simpa only [Nat.div_add_mod, BitVec.ofNat_toNat, BitVec.setWidth_eq] using hcol

theorem encode_build (cb : CbAlias) (op b : Byte) (w : Word) :
    encode (build b w (entryOf cb op)) = op :: operandList b w (entryOf cb op) := by
  revert op
  cases cb <;> exact eq_of_byRows_eq rfl

theorem wellFormed_build (cb : CbAlias) (op b : Byte) (w : Word) :
    (build b w (entryOf cb op)).wellFormed cb = true := by
  revert op
  cases cb <;> exact eq_of_byRows_eq rfl

theorem operands_entryOf (cb : CbAlias) (op : Byte) : (entryOf cb op).operands = operandBytesOf cb op := by
  revert op
  cases cb <;> exact eq_of_byRows_eq rfl

/-! ### Every instruction is in the map -/

/-- The map holds an instruction at its own opcode byte; 0xCB holds the reading that CB_ALIAS selects (R131). -/
theorem exists_build {cb : CbAlias} {i : Instr} (hwf : i.wellFormed cb = true) :
    ∃ b w, build b w (entryOf cb (opcodeOf i)) = i := by
  cases i with
  | mviB v | mviC v | mviD v | mviE v | mviH v | mviL v | mviA v | mviM v | adi v | aci v | sui v | sbi v | ani v
  | xri v | ori v | cpi v | inPort v | outPort v =>
    simp only [opcodeOf, encode, List.headD_cons]
    exact ⟨v, 0, rfl⟩
  | lxiB w | lxiD w | lxiH w | lxiSP w | lda w | sta w | lhld w | shld w | jmp w | jnz w | jz w | jnc w | jc w | jpo w
  | jpe w | jp w | jm w | call w | cnz w | cz w | cnc w | cc w | cpo w | cpe w | cp w | cm w | callDD w | callED w
  | callFD w =>
    simp only [opcodeOf, encode, List.headD_cons]
    exact ⟨0, w, rfl⟩
  | jmpCB w =>
    obtain rfl : cb = .jmp := of_decide_eq_true hwf
    simp only [opcodeOf, encode, List.headD_cons]
    exact ⟨0, w, rfl⟩
  | retCB =>
    obtain rfl : cb = .ret := of_decide_eq_true hwf
    exact ⟨0, 0, rfl⟩
  | _ => exact ⟨0, 0, rfl⟩

/-! ### The statements -/

/-- Settles O2: an instruction is the one its map entry builds, and the decoder reads that entry's bytes back. -/
theorem decodingAnEncodedInstructionGivesItBack : Obligations.DecodingAnEncodedInstructionGivesItBack := by
  intro cb i rest hwf
  obtain ⟨b, w, hi⟩ := exists_build hwf
  calc decodeBytes cb (encode i ++ rest)
    _ = decodeBytes cb (encode (build b w (entryOf cb (opcodeOf i))) ++ rest) := by rw [hi]
    _ = .ok (build b w (entryOf cb (opcodeOf i)), rest) := by rw [encode_build, decodeBytes_build]
    _ = .ok (i, rest) := by rw [hi]

/-- Settles O3: what three bytes decode to is what the entry of the first one builds from the other two. -/
theorem encodingADecodedInstructionGivesItsBytes : Obligations.EncodingADecodedInstructionGivesItsBytes := by
  intro cb op b2 b3
  refine ⟨?_, ?_, ?_⟩
  · rw [decode, read_eq_build, wellFormed_build]
  · rw [operandBytes_decode, operands_entryOf]
  · rw [decode, read_eq_build, encode_build, operandList_assemble, operands_entryOf, Nat.add_comm, List.take_succ_cons]

/-- Settles O1, by running the decoder on the words. -/
theorem specWordsDecodeToTheirInstructions : Obligations.SpecWordsDecodeToTheirInstructions := by
  unfold Obligations.SpecWordsDecodeToTheirInstructions
  decide

end Sys2Proof.Proofs.Encoding
end

section
/-! PROOF. The step (30_encoding.md R140, R144): which of its three outcomes a step has, by the run state and by the
range of its accesses. -/

namespace Sys2Proof.Proofs.Steps

open Sys2Proof.Machine Sys2Proof.Safety Sys2Proof.Claims
open Sys2Proof.Proofs.Outcomes Sys2Proof.Proofs.HaltAndNop

/-! ### The fetch -/

theorem fetch_opcode_outOfRange {s : State} (h : ¬ s.inRange s.pc) :
    fetch s = .error (.outOfBoundsMemoryAccess s.pc none) := by
  rw [fetch, memRead1_eq, if_neg h]
  rfl

theorem fetch_operand_outOfRange {s : State} (h0 : s.inRange s.pc)
    (h : ¬ s.inRange (s.pc + 1) ∨ ¬ s.inRange (s.pc + 2)) :
    fetch s = .error (.outOfBoundsMemoryAccess s.pc (some (byteAt s s.pc))) := by
  by_cases h1 : s.inRange (s.pc + 1)
  · have h2 : ¬ s.inRange (s.pc + 2) := h.resolve_left (not_not_intro h1)
    simp only [fetch, memRead1_eq, if_pos h0, if_pos h1, if_neg h2]
    rfl
  · simp only [fetch, memRead1_eq, if_pos h0, if_neg h1]
    rfl

/-! ### The step -/

theorem step_of_fetch_ok {s : State} {w : Fetched} (hrun : s.run = .running) (h : fetch s = .ok w) :
    step s = exec (decode s.params.cbAlias w.op w.b2 w.b3) s := by
  simp only [step, hrun, h]

theorem step_of_fetch_error {s : State} {f : Fault} (hrun : s.run = .running) (h : fetch s = .error f) :
    step s = .fault f := by
  simp only [step, hrun, h]

/-- What a step can be: nothing in HALTED, the fault of its fetch, or one instruction. -/
theorem step_cases (s : State) : step s = .next s ∨ (∃ f, step s = .fault f) ∨ ∃ i, step s = exec i s := by
  cases hrun : s.run with
  | halted => exact .inl (step_of_halted hrun)
  | running =>
    cases hfetch : fetch s with
    | error f => exact .inr (.inl ⟨f, step_of_fetch_error hrun hfetch⟩)
    | ok w => exact .inr (.inr ⟨_, step_of_fetch_ok hrun hfetch⟩)

/-- Settles O5: with its three addresses in range the fetch answers the three bytes, and the step executes them. -/
theorem stepRunsTheDecodedInstruction : Obligations.StepRunsTheDecodedInstruction := by
  intro s hrun h0 h1 h2
  rw [step_of_fetch_ok hrun (fetch_ok h0 h1 h2)]
  rfl

/-- Settles O6, by which of the three addresses is out of range. -/
theorem fetchFaultsOutsideMemory : Obligations.FetchFaultsOutsideMemory :=
  fun _ hrun => ⟨fun h0 => step_of_fetch_error hrun (fetch_opcode_outOfRange h0),
    fun h0 h => step_of_fetch_error hrun (fetch_operand_outOfRange h0 h)⟩

/-- Settles O7: the run state decides before the fetch. -/
theorem haltedStepChangesNothing : Obligations.HaltedStepChangesNothing :=
  fun _ => step_of_halted

/-! ### No refusal, and no fault in full memory -/

theorem step_ne_refused (s : State) (r : Refusal) : step s ≠ .refused r := by
  obtain h | ⟨f, h⟩ | ⟨i, h⟩ := step_cases s
  · simp [h]
  · simp [h]
  · obtain ⟨t, ht⟩ | hf := exec_cases i s
    · simp [h, ht]
    · simp [h, hf]

theorem inRange_of_fullMemory {s : State} (h : s.params.memSize = 65536) (a : Word) : s.inRange a := by
  rw [State.inRange, h]
  exact a.isLt

theorem exec_of_fullMemory {s : State} (h : s.params.memSize = 65536) (i : Instr) :
    exec i s = .next (stateAfter (formOf i) s) :=
  exec_of_inRange ⟨fun a _ => inRange_of_fullMemory h a, fun a _ => inRange_of_fullMemory h a⟩

theorem completes_of_fullMemory {s : State} (h : s.params.memSize = 65536) : Completes s := by
  have hin := inRange_of_fullMemory h
  cases hrun : s.run with
  | halted => exact ⟨s, step_of_halted hrun⟩
  | running => exact ⟨_, (step_of_fetch_ok hrun (fetch_ok (hin _) (hin _) (hin _))).trans (exec_of_fullMemory h _)⟩

/-- Settles O8: no step is refused, and in full memory every access is in range. -/
theorem everyStepCompletesInFullMemory : Obligations.EveryStepCompletesInFullMemory :=
  ⟨step_ne_refused, fun _ => completes_of_fullMemory⟩

end Sys2Proof.Proofs.Steps
end

section
/-! PROOF. Memory (20_memory.md R80 to R90): the byte and word accesses, the load, the bytes an instruction stores, said
once, and from that the frame of memory and the invariant. Last, the state at creation (10_state.md R63). -/

namespace Sys2Proof.Proofs.MemoryFrame

open Sys2Proof.Machine Sys2Proof.Safety Sys2Proof.Claims
open Sys2Proof.Proofs.Outcomes Sys2Proof.Proofs.Steps

/-! ### The byte and word accesses -/

theorem byteAt_write (s : State) (a b : Word) (v : Byte) :
    byteAt { s with mem := s.mem.write a.toNat v } b = if b = a then v else byteAt s b := by
  simp only [byteAt, Memory.read_write, BitVec.toNat_inj]

/-- Settles O22, by whether the address is in range. -/
theorem byteAccessesReadAndWriteTheirByte : Obligations.ByteAccessesReadAndWriteTheirByte := by
  intro s a v
  rw [memRead1_eq, memWrite1_eq]
  refine ⟨fun h => ?_, fun h => ?_⟩
  · rw [if_pos h, if_pos h]
    exact ⟨rfl, _, rfl, fun b => byteAt_write s a b v, rfl⟩
  · rw [if_neg h, if_neg h]
    exact ⟨rfl, rfl⟩

/-- The bytes after a word is written at `a`: the high byte is written last, and its address is another one. -/
theorem byteAt_writeWord (s : State) (a b v : Word) :
    byteAt { s with mem := (s.mem.write a.toNat (loByte v)).write (a + 1).toNat (hiByte v) } b =
      if b = a + 1 then hiByte v else if b = a then loByte v else byteAt s b := by
  rw [byteAt_write { s with mem := s.mem.write a.toNat (loByte v) }, byteAt_write]

/-- Settles O23, by whether both bytes are in range. -/
theorem wordsAreLittleEndian : Obligations.WordsAreLittleEndian := by
  intro s a v
  refine ⟨fun hlo hhi => ?_, fun h => ?_⟩
  · let t : State := { s with mem := (s.mem.write a.toNat (loByte v)).write (a + 1).toNat (hiByte v) }
    have hlow : byteAt t a = loByte v := by
      rw [byteAt_writeWord, if_neg (word_add_one_ne a).symm, if_pos rfl]
    have hhigh : byteAt t (a + 1) = hiByte v := by rw [byteAt_writeWord, if_pos rfl]
    have hback : memRead2 a t = some v :=
      calc memRead2 a t
        _ = some (assemble (byteAt t (a + 1)) (byteAt t a)) := by rw [memRead2_eq, if_pos ⟨hlo, hhi⟩]; rfl
        _ = some v := by rw [hlow, hhigh, assemble_bytes]
    rw [memRead2_eq, memWrite2_eq, if_pos ⟨hlo, hhi⟩, if_pos ⟨hlo, hhi⟩]
    refine ⟨rfl, t, rfl, hback, hlow, hhigh, fun b ha ha1 => ?_⟩
    rw [byteAt_writeWord, if_neg ha1, if_neg ha]
  · rw [memRead2_eq, memWrite2_eq, if_neg h, if_neg h]
    exact ⟨rfl, rfl⟩

/-! ### The load -/

theorem read_loadBytes (bytes : List Byte) (start a : Nat) (m : Memory) :
    (loadBytes bytes start m).read a =
      if start ≤ a ∧ a < start + bytes.length then bytes.getD (a - start) 0 else m.read a := by
  induction bytes generalizing start m with
  | nil =>
    rw [loadBytes, if_neg]
    simp
  | cons v rest ih =>
    rw [loadBytes, ih, Memory.read_write, List.length_cons]
    by_cases ha : a = start
    · subst ha
      simp
    · by_cases hin : start + 1 ≤ a ∧ a < start + 1 + rest.length
      · have hsub : a - start = a - (start + 1) + 1 := by omega
        rw [if_pos hin, if_pos (by omega), hsub, List.getD_cons_succ]
      · rw [if_neg hin, if_neg ha, if_neg (by omega)]

/-- Settles O28, by induction over the bytes loaded. -/
theorem loadWritesItsBytesOrIsRefused : Obligations.LoadWritesItsBytesOrIsRefused := by
  intro bytes start s
  refine ⟨fun h => ?_, fun h => ?_⟩
  · exact ⟨_, if_neg (Nat.not_lt.mpr h), rfl, fun a => read_loadBytes bytes start.toNat a s.mem⟩
  · exact if_pos h

/-! ### The bytes an instruction stores -/

/-- The memory after the writes of some bytes, in order. -/
def storeAll (m : Memory) (cells : List (Word × Byte)) : Memory :=
  cells.foldl (fun m cell => m.write cell.1.toNat cell.2) m

/-- A form stores bytes at the addresses the spec names for it, and changes memory in no other way (R90). -/
theorem effect_mem (f : Form) (s : State) :
    ∃ cells : List (Word × Byte), cells.map Prod.fst = storeAddrs f s ∧ (effect f s).mem = storeAll s.mem cells := by
  cases f with
  | movMR | mviM | sta | staxB | staxD | inrM | dcrM => exact ⟨[(_, _)], rfl, rfl⟩
  | shld | push | pushPSW | call | rst | xthl => exact ⟨[(_, _), (_, _)], rfl, rfl⟩
  | ccc cond addr =>
    cases h : condHolds cond s.flags
    · exact ⟨[], by simp [storeAddrs, h], by simp [effect, h, storeAll]⟩
    · exact ⟨[(s.sp - 1, hiByte (s.pc + 3)), (s.sp - 2, loByte (s.pc + 3))], by simp [storeAddrs, pushAddrs, h],
        by simp [effect, onStack, h, storeAll]⟩
  | rcc cond => exact ⟨[], rfl, by simp only [effect]; split <;> rfl⟩
  | movRR | movRM | mviR | lda | ldaxB | ldaxD | inrR | dcrR => exact ⟨[], rfl, State.setReg_mem ..⟩
  | lxi | inx | dcx | pop | dad | dadSP => exact ⟨[], rfl, State.setPair_mem ..⟩
  | _ => exact ⟨[], rfl, rfl⟩

theorem read_storeAll {cells : List (Word × Byte)} {a : Word} (h : a ∉ cells.map Prod.fst) (m : Memory) :
    (storeAll m cells).read a.toNat = m.read a.toNat := by
  induction cells generalizing m with
  | nil => rfl
  | cons cell rest ih =>
    rw [List.map_cons, List.mem_cons, not_or] at h
    obtain ⟨hne, hrest⟩ := h
    have hne' : a.toNat ≠ cell.1.toNat := fun e => hne (BitVec.eq_of_toNat_eq e)
    rw [storeAll, List.foldl_cons, ← storeAll, ih hrest, Memory.read_write, if_neg hne']

/-- Settles O17: what an instruction stores leaves every other address to read as before. -/
theorem bytesNotStoredToAreUnchanged : Obligations.BytesNotStoredToAreUnchanged := by
  intro i s t a h ha
  obtain ⟨-, rfl⟩ := exec_next_iff.mp h
  obtain ⟨cells, haddrs, hmem⟩ := effect_mem (formOf i) s
  rw [byteAt, stateAfter, hmem]
  exact read_storeAll (haddrs ▸ ha) s.mem

/-! ### The invariant -/

/-- Memory in canonical form, with entries below `n` only: the two clauses of the invariant about memory. -/
def CanonicalBelow (n : Nat) (m : Memory) : Prop := Memory.wf m = true ∧ ∀ cell ∈ m, cell.1 < n

theorem canonicalBelow_write {n a : Nat} {m : Memory} (ha : a < n) (h : CanonicalBelow n m) (v : Byte) :
    CanonicalBelow n (m.write a v) := by
  obtain ⟨hwf, hbelow⟩ := h
  refine ⟨Memory.wf_write m a v hwf, fun cell hcell => ?_⟩
  obtain rfl | hold := Memory.mem_write hcell
  · exact ha
  · exact hbelow cell hold

theorem canonicalBelow_storeAll {n : Nat} {cells : List (Word × Byte)} {m : Memory}
    (haddrs : ∀ a ∈ cells.map Prod.fst, a.toNat < n) (h : CanonicalBelow n m) :
    CanonicalBelow n (storeAll m cells) := by
  induction cells generalizing m with
  | nil => exact h
  | cons cell rest ih =>
    rw [List.map_cons, List.forall_mem_cons] at haddrs
    obtain ⟨hcell, hrest⟩ := haddrs
    exact ih hrest (canonicalBelow_write hcell h cell.2)

theorem effect_params (f : Form) (s : State) : (effect f s).params = s.params := by
  cases f with
  | movRR | movRM | mviR | lda | ldaxB | ldaxD | inrR | dcrR => exact State.setReg_params ..
  | lxi | inx | dcx | pop | dad | dadSP => exact State.setPair_params ..
  | ccc | rcc => simp only [effect]; split <;> rfl
  | _ => rfl

theorem exec_keeps_inv {i : Instr} {s t : State} (hinv : Inv s) (h : exec i s = .next t) : Inv t := by
  obtain ⟨⟨-, hstores⟩, rfl⟩ := exec_next_iff.mp h
  obtain ⟨hparams, hmem⟩ := hinv
  obtain ⟨cells, haddrs, hcells⟩ := effect_mem (formOf i) s
  have hafter : CanonicalBelow s.params.memSize (effect (formOf i) s).mem := by
    rw [hcells]
    exact canonicalBelow_storeAll (haddrs ▸ hstores) hmem
  rw [← effect_params (formOf i) s] at hparams hafter
  exact ⟨hparams, hafter⟩

/-- Settles O9: a step in HALTED changes nothing, and an instruction stores only in range and never writes the
parameters. -/
theorem stepKeepsTheInvariant : Obligations.StepKeepsTheInvariant := by
  intro s t hinv h
  obtain hs | ⟨f, hs⟩ | ⟨i, hs⟩ := step_cases s
  · rw [hs, Host.Outcome.next.injEq] at h
    exact h ▸ hinv
  · exact absurd (hs.symm.trans h) nofun
  · exact exec_keeps_inv hinv (hs.symm.trans h)

/-! ### Creation -/

/-- Settles O10: by evaluating the three clauses at reset. -/
theorem resetMeetsTheInvariant : Obligations.ResetMeetsTheInvariant := by
  unfold Obligations.ResetMeetsTheInvariant
  decide

theorem packFlags_reset : packFlags Flags.reset = 0x02 := rfl

/-- Settles O11: creation sets every field to its argument or to 0. -/
theorem creationGivesTheStatedValues : Obligations.CreationGivesTheStatedValues := by
  refine ⟨fun p entry spInit m host => ?_, rfl, fun a => Memory.read_nil a.toNat⟩
  exact ⟨fun r => by cases r <;> rfl, packFlags_reset, rfl, rfl, rfl, rfl, rfl, rfl, rfl, rfl⟩

end Sys2Proof.Proofs.MemoryFrame
end

section
/-! PROOF. The rules over all instructions (10_state.md R38, R53, R57, R58, R62; 30_encoding.md R142, R143): what each
form leaves in the fields beside memory, by a case split over the forms. -/

namespace Sys2Proof.Proofs.Frames

open Sys2Proof.Machine Sys2Proof.Safety Sys2Proof.Claims
open Sys2Proof.Proofs.Outcomes Sys2Proof.Proofs.Steps Sys2Proof.Proofs.HaltAndNop Sys2Proof.Proofs.MemoryFrame

/-! ### RUN, INTE and the ports -/

/-- The forms that write RUN, INTE or the ports. -/
def isControl : Form → Bool
  | .hlt | .ei | .di | .inPort _ | .outPort _ => true
  | _ => false

/-- Each control form belongs to one instruction only. -/
theorem control_cases {i : Instr} (h : isControl (formOf i) = true) :
    i = .hlt ∨ i = .ei ∨ i = .di ∨ (∃ p, i = .inPort p) ∨ ∃ p, i = .outPort p := by
  cases i with
  | hlt => exact .inl rfl
  | ei => exact .inr (.inl rfl)
  | di => exact .inr (.inr (.inl rfl))
  | inPort p => exact .inr (.inr (.inr (.inl ⟨p, rfl⟩)))
  | outPort p => exact .inr (.inr (.inr (.inr ⟨p, rfl⟩)))
  | _ => exact Bool.noConfusion h

theorem effect_control {f : Form} (h : isControl f = false) (s : State) :
    (effect f s).run = s.run ∧ (effect f s).inte = s.inte ∧ (effect f s).portHost = s.portHost ∧
      (effect f s).portLog = s.portLog := by
  cases f with
  | hlt | ei | di | inPort | outPort => exact Bool.noConfusion h
  | movRR | movRM | mviR | lda | ldaxB | ldaxD | inrR | dcrR =>
    exact ⟨State.setReg_run .., State.setReg_inte .., State.setReg_portHost .., State.setReg_portLog ..⟩
  | lxi | inx | dcx | pop | dad | dadSP =>
    exact ⟨State.setPair_run .., State.setPair_inte .., State.setPair_portHost .., State.setPair_portLog ..⟩
  | ccc | rcc =>
    simp only [effect]
    split <;> exact ⟨rfl, rfl, rfl, rfl⟩
  | _ => exact ⟨rfl, rfl, rfl, rfl⟩

/-- Settles O12: the control instructions one by one; every other one leaves RUN and INTE alone. -/
theorem onlyHltHaltsAndOnlyEiDiWriteInte : Obligations.OnlyHltHaltsAndOnlyEiDiWriteInte := by
  refine ⟨fun p entry spInit m host => rfl, fun i s t h => ?_, fun s t h hrun => ?_⟩
  · obtain ⟨-, rfl⟩ := exec_next_iff.mp h
    cases hc : isControl (formOf i) with
    | true =>
      obtain rfl | rfl | rfl | ⟨p, rfl⟩ | ⟨p, rfl⟩ := control_cases hc <;> exact ⟨rfl, rfl⟩
    | false =>
      obtain ⟨hrun, hinte, -, -⟩ := effect_control hc s
      have hne (j : Instr) (hj : isControl (formOf j) = true) : i ≠ j := fun e => by simp [e, hj] at hc
      rw [if_neg (hne .hlt rfl), if_neg (hne .ei rfl), if_neg (hne .di rfl)]
      exact ⟨hrun, hinte⟩
  · rw [step_of_halted hrun, Host.Outcome.next.injEq] at h
    exact h ▸ hrun

/-- Settles O19: IN and OUT by computation; every other instruction leaves the host and its log alone. -/
theorem parametersAndPortsChangeOnlyAsStated : Obligations.ParametersAndPortsChangeOnlyAsStated := by
  intro i s t h
  obtain ⟨-, rfl⟩ := exec_next_iff.mp h
  refine ⟨effect_params _ s, ?_⟩
  cases hc : isControl (formOf i) with
  | true =>
    obtain rfl | rfl | rfl | ⟨p, rfl⟩ | ⟨p, rfl⟩ := control_cases hc
    · exact ⟨rfl, rfl, rfl⟩
    · exact ⟨rfl, rfl, rfl⟩
    · exact ⟨rfl, rfl, rfl⟩
    · exact ⟨rfl, rfl, outEvents_portRead p s⟩
    · exact ⟨rfl, rfl, outEvents_portWrite p s.a s⟩
  | false =>
    obtain ⟨-, -, hhost, hlog⟩ := effect_control hc s
    have hevents : outEvents (stateAfter (formOf i) s) = outEvents s := congrArg outputsOf hlog
    split
    · exact Bool.noConfusion hc
    · exact Bool.noConfusion hc
    · refine ⟨hlog, hhost, ?_⟩
      split
      · exact Bool.noConfusion hc
      · exact hevents

/-! ### SP and PC -/

theorem effect_sp (f : Form) (s : State) : (effect f s).sp = spAfter f s := by
  cases f with
  | movRR | movRM | mviR | lda | ldaxB | ldaxD | inrR | dcrR => exact State.setReg_sp ..
  | lxi | inx | dcx | pop | dad | dadSP => exact State.setPair_sp ..
  | ccc | rcc =>
    simp only [effect, spAfter]
    split <;> rfl
  | _ => rfl

/-- Settles O18: SP as `effect_sp` gives it, PC apart. -/
theorem stackPointerChangesOnlyAsStated : Obligations.StackPointerChangesOnlyAsStated := by
  intro i s t h
  obtain ⟨-, rfl⟩ := exec_next_iff.mp h
  exact effect_sp (formOf i) s

/-- The PC-advance policy of a form (R143). -/
def formPolicy : Form → PcPolicy
  | .jmp _ | .call _ | .ret | .rst _ | .pchl => .handler
  | .jcc _ _ | .ccc _ _ | .rcc _ => .handlerIfTaken
  | _ => .dispatcher

theorem pcPolicy_eq (i : Instr) : pcPolicy i = formPolicy (formOf i) := by
  cases i <;> rfl

theorem branchTarget_of_dispatcher {f : Form} (h : formPolicy f = .dispatcher) (s : State) :
    branchTarget f s = none := by
  cases f with
  | jmp | call | ret | rst | pchl | jcc | ccc | rcc => exact PcPolicy.noConfusion h
  | _ => rfl

theorem branchTarget_of_handler {f : Form} (h : formPolicy f = .handler) (s : State) : branchTarget f s ≠ none := by
  cases f with
  | jmp | call | ret | rst | pchl => exact Option.some_ne_none _
  | _ => exact PcPolicy.noConfusion h

/-- Settles O20: the PC of the form, and its policy. -/
theorem exactlyOneWriterOfPc : Obligations.ExactlyOneWriterOfPc := by
  intro i s t h
  obtain ⟨-, rfl⟩ := exec_next_iff.mp h
  rw [operandBytes_eq, pcPolicy_eq]
  exact ⟨rfl, fun h => branchTarget_of_dispatcher h s, fun h => branchTarget_of_handler h s⟩

/-! ### The registers -/

theorem effect_reg {f : Form} {r : Reg} (h : r ∉ regsWritten f) (s : State) : (effect f s).reg r = s.reg r := by
  cases f with
  | movRR | movRM | mviR => exact (State.reg_setReg ..).trans (if_neg (List.mem_singleton.not.mp h))
  | inrR | dcrR =>
    rw [effect, State.reg_updateFlags, State.reg_setReg, if_neg (List.mem_singleton.not.mp h)]
  | lxi p | inx p | dcx p | pop p =>
    simp only [regsWritten, List.mem_cons, List.not_mem_nil, or_false, not_or] at h
    obtain ⟨hhigh, hlow⟩ := h
    simp [effect, hhigh, hlow]
  | lda | ldaxB | ldaxD | inPort | rlc | rrc | ral | rar | cma | daa | popPSW =>
    cases r with
    | a => exact absurd (List.mem_singleton_self _) h
    | _ => rfl
  | accR op | accM op | accI op =>
    cases r with
    | a =>
      cases op with
      | cmp => rfl
      | _ => exact absurd (List.mem_singleton_self _) h
    | _ => rfl
  | lhld | xthl | dad | dadSP =>
    cases r with
    | h | l => simp [regsWritten] at h
    | _ => rfl
  | xchg =>
    cases r with
    | h | l | d | e => simp [regsWritten] at h
    | _ => rfl
  | ccc | rcc =>
    simp only [effect]
    split <;> cases r <;> rfl
  | _ => cases r <;> rfl

/-- Settles O16. -/
theorem registersNotWrittenAreUnchanged : Obligations.RegistersNotWrittenAreUnchanged := by
  intro i s t r h hr
  obtain ⟨-, rfl⟩ := exec_next_iff.mp h
  rw [stateAfter, State.reg_updatePc]
  exact effect_reg hr s

end Sys2Proof.Proofs.Frames
end

section
/-! PROOF. The flags by the table of R53 (10_state.md): what each form leaves in a flag it is not marked as writing, and
the carry of STC, CMC and the logical operations. -/

namespace Sys2Proof.Proofs.FlagFrame

open Sys2Proof.Machine Sys2Proof.Safety Sys2Proof.Proofs.Outcomes

/-- The flags outside `w` are as before. -/
def Keeps (w : FlagSet) (before after : Flags) : Prop :=
  (w.z = false → after.z = before.z) ∧ (w.s = false → after.s = before.s) ∧ (w.p = false → after.p = before.p) ∧
    (w.cy = false → after.cy = before.cy) ∧ (w.ac = false → after.ac = before.ac)

theorem keeps_of_eq (w : FlagSet) {before after : Flags} (h : after = before) : Keeps w before after := by
  subst h
  exact ⟨fun _ => rfl, fun _ => rfl, fun _ => rfl, fun _ => rfl, fun _ => rfl⟩

theorem keeps_all (before after : Flags) : Keeps .all before after :=
  ⟨nofun, nofun, nofun, nofun, nofun⟩

theorem keeps_allButCy {before after : Flags} (h : after.cy = before.cy) : Keeps .allButCy before after :=
  ⟨nofun, nofun, nofun, fun _ => h, nofun⟩

theorem keeps_onlyCy (before : Flags) (cy : Bool) : Keeps .onlyCy before { before with cy := cy } :=
  ⟨fun _ => rfl, fun _ => rfl, fun _ => rfl, nofun, fun _ => rfl⟩

theorem effect_flags (f : Form) (s : State) : Keeps (flagsWritten f) s.flags (effect f s).flags := by
  cases f with
  | accR | accM | accI | daa | popPSW => exact keeps_all _ _
  | inrR | inrM | dcrR | dcrM => exact keeps_allButCy rfl
  | dad | dadSP | rlc | rrc | ral | rar | stc | cmc => exact keeps_onlyCy _ _
  | movRR | movRM | mviR | lda | ldaxB | ldaxD => exact keeps_of_eq _ (State.setReg_flags ..)
  | lxi | inx | dcx | pop => exact keeps_of_eq _ (State.setPair_flags ..)
  | ccc | rcc =>
    simp only [effect]
    split <;> exact keeps_of_eq _ rfl
  | _ => exact keeps_of_eq _ rfl

/-- Settles O15: the frame of each form, then the carry of the three groups by computation. -/
theorem flagsOutsideTheTableAreUntouched : Obligations.FlagsOutsideTheTableAreUntouched := by
  intro i s t h
  obtain ⟨-, rfl⟩ := exec_next_iff.mp h
  generalize formOf i = f
  obtain ⟨hz, hs, hp, hcy, hac⟩ := effect_flags f s
  refine ⟨hz, hs, hp, hcy, hac, ?_, ?_, ?_⟩
  · rintro rfl
    rfl
  · rintro rfl
    rfl
  · rintro op (rfl | rfl | rfl) (⟨r, rfl⟩ | rfl | ⟨v, rfl⟩) <;> rfl

end Sys2Proof.Proofs.FlagFrame
end

section
/-! PROOF. Which part of the state an outcome does not depend on: INTE for every step (10_state.md R57), AC for every
instruction but DAA and PUSH PSW (R45, R54), and the host behind the ports but for its answers (70_reset_and_hazards.md
R466). Two states that differ only there access the same addresses, take the same branch and leave alike states. -/

namespace Sys2Proof.Proofs.Independence

open Sys2Proof.Machine Sys2Proof.Safety Sys2Proof.Claims
open Sys2Proof.Proofs.Outcomes Sys2Proof.Proofs.Steps Sys2Proof.Proofs.HaltAndNop

/-! ### The part of the state that addresses and branches are computed from -/

/-- The two states have the same pairs, SP, PC, conditions, memory and parameters. -/
structure SameAccesses (s s' : State) : Prop where
  pair : ∀ p, s'.pair p = s.pair p
  sp : s'.sp = s.sp
  pc : s'.pc = s.pc
  cond : ∀ k, condHolds k s'.flags = condHolds k s.flags
  mem : s'.mem = s.mem
  params : s'.params = s.params

theorem condHolds_updateAc (k : Cond) (f : Flags) (ac : Bool) : condHolds k { f with ac := ac } = condHolds k f := by
  cases k <;> rfl

theorem sameAccesses_updateInte (s : State) (v : Bool) : SameAccesses s { s with inte := v } :=
  ⟨fun _ => State.pair_updateInte .., rfl, rfl, fun _ => rfl, rfl, rfl⟩

theorem sameAccesses_updateAc (s : State) (v : Bool) : SameAccesses s { s with flags := { s.flags with ac := v } } :=
  ⟨fun _ => State.pair_updateFlags .., rfl, rfl, fun _ => condHolds_updateAc .., rfl, rfl⟩

theorem sameAccesses_updatePortHost (s : State) (host : PortHost) : SameAccesses s { s with portHost := host } :=
  ⟨fun _ => State.pair_updatePortHost .., rfl, rfl, fun _ => rfl, rfl, rfl⟩

section
variable {s s' : State} (h : SameAccesses s s')
include h

theorem loadAddrs_congr (f : Form) : loadAddrs f s' = loadAddrs f s := by
  cases f <;> simp only [loadAddrs, topAddrs, h.pair, h.sp, h.cond]

theorem storeAddrs_congr (f : Form) : storeAddrs f s' = storeAddrs f s := by
  cases f <;> simp only [storeAddrs, pushAddrs, topAddrs, h.pair, h.sp, h.cond]

theorem branchTarget_congr (f : Form) : branchTarget f s' = branchTarget f s := by
  cases f <;> simp only [branchTarget, topWord, h.pair, h.sp, h.cond, h.mem]

theorem accessesInRange_congr (f : Form) : accessesInRange f s' ↔ accessesInRange f s := by
  simp only [accessesInRange, State.inRange, loadAddrs_congr h, storeAddrs_congr h, h.params]

theorem fetch_congr : fetch s' = fetch s := by
  simp only [fetch, memRead1, raiseOutOfBounds, State.inRange, h.pc, h.mem, h.params]

/-- Two states with the same accesses have agreeing outcomes when the form's effects agree. `d` is one of the three
projections of the statements; none of them reads PC. -/
theorem agreeUpTo_exec {d : State → State} {i : Instr} (hpc : ∀ t w, d { t with pc := w } = { d t with pc := w })
    (heffect : d (effect (formOf i) s') = d (effect (formOf i) s)) : agreeUpTo d (exec i s) (exec i s') := by
  by_cases hin : accessesInRange (formOf i) s
  · rw [exec_of_inRange hin, exec_of_inRange ((accessesInRange_congr h _).mpr hin)]
    change d (stateAfter _ s) = d (stateAfter _ s')
    have hbranch : branchTarget (formOf i) s' = branchTarget (formOf i) s := branchTarget_congr h _
    let pc := (branchTarget (formOf i) s).getD (s.pc + BitVec.ofNat 16 (1 + formOperands (formOf i)))
    calc d (stateAfter (formOf i) s)
      _ = { d (effect (formOf i) s) with pc := pc } := hpc _ _
      _ = { d (effect (formOf i) s') with pc := pc } := by rw [heffect]
      _ = d { effect (formOf i) s' with pc := pc } := (hpc _ _).symm
      _ = d (stateAfter (formOf i) s') := by rw [stateAfter, hbranch, h.pc]
  · rw [exec_of_not_inRange hin, exec_of_not_inRange (mt (accessesInRange_congr h _).mp hin), h.pc]
    rfl

/-- Two states that agree, run alike and fetch alike have agreeing steps when every instruction's outcomes agree. -/
theorem agreeUpTo_step {d : State → State} (hrun : s'.run = s.run) (hd : d s = d s')
    (hexec : ∀ i, agreeUpTo d (exec i s) (exec i s')) : agreeUpTo d (step s) (step s') := by
  cases hs : s.run with
  | halted =>
    rw [step_of_halted hs, step_of_halted (hrun.trans hs)]
    exact hd
  | running =>
    cases hf : fetch s with
    | error f =>
      rw [step_of_fetch_error hs hf, step_of_fetch_error (hrun.trans hs) ((fetch_congr h).trans hf)]
      rfl
    | ok w =>
      rw [step_of_fetch_ok hs hf, step_of_fetch_ok (hrun.trans hs) ((fetch_congr h).trans hf), h.params]
      exact hexec _

end

/-! ### The effects -/

/-- INTE is copied or overwritten by every form, AC by every form but DAA and PUSH PSW, and the host by every form but
IN, which takes its answer. -/
theorem effect_independence (f : Form) (s : State) (inte ac : Bool) (host : PortHost) :
    dropInte (effect f { s with inte := inte }) = dropInte (effect f s) ∧
    (f ≠ .daa → f ≠ .pushPSW →
      dropAc (effect f { s with flags := { s.flags with ac := ac } }) = dropAc (effect f s)) ∧
    ((∀ p, hostAnswer host s.portLog p = hostAnswer s.portHost s.portLog p) →
      dropHost (effect f { s with portHost := host }) = dropHost (effect f s)) := by
  cases f with
  | daa => exact ⟨rfl, fun h => absurd rfl h, fun _ => rfl⟩
  | pushPSW => exact ⟨rfl, fun _ h => absurd rfl h, fun _ => rfl⟩
  | inPort p => exact ⟨rfl, fun _ _ => rfl, fun h => by simp only [effect, dropHost, h p]⟩
  | movRR dst src =>
    simp only [effect, State.reg_updateInte, State.reg_updateFlags, State.reg_updatePortHost]
    cases dst <;> exact ⟨rfl, fun _ _ => rfl, fun _ => rfl⟩
  | movRM r | movMR r | mviR r _ | inrR r | dcrR r => cases r <;> exact ⟨rfl, fun _ _ => rfl, fun _ => rfl⟩
  | accR op src =>
    simp only [effect, State.reg_updateInte, State.reg_updateFlags, State.reg_updatePortHost]
    cases op <;> exact ⟨rfl, fun _ _ => rfl, fun _ => rfl⟩
  | accM op | accI op _ => cases op <;> exact ⟨rfl, fun _ _ => rfl, fun _ => rfl⟩
  | lxi p _ | push p | pop p | inx p | dcx p | dad p => cases p <;> exact ⟨rfl, fun _ _ => rfl, fun _ => rfl⟩
  | ccc cond _ | rcc cond =>
    simp only [effect, condHolds_updateAc]
    split <;> exact ⟨rfl, fun _ _ => rfl, fun _ => rfl⟩
  | _ => exact ⟨rfl, fun _ _ => rfl, fun _ => rfl⟩

/-! ### The statements -/

/-- Settles O13: the same fetch, and effects that agree but for INTE. -/
theorem noStepReadsInte : Obligations.NoStepReadsInte := by
  intro s v
  have h := sameAccesses_updateInte s v
  refine agreeUpTo_step h rfl rfl fun i => agreeUpTo_exec h (fun _ _ => rfl) ?_
  obtain ⟨hinte, -, -⟩ := effect_independence (formOf i) s v s.flags.ac s.portHost
  exact hinte

/-- Settles O14: the same accesses and branches, and effects that agree but for AC. -/
theorem onlyDaaAndPushPswReadAc : Obligations.OnlyDaaAndPushPswReadAc := by
  intro i s v hdaa hpush
  refine agreeUpTo_exec (sameAccesses_updateAc s v) (fun _ _ => rfl) ?_
  obtain ⟨-, hac, -⟩ := effect_independence (formOf i) s s.inte v s.portHost
  exact hac hdaa hpush

/-- R466: a step with a host that answers alike has the same outcome, the host apart. -/
theorem agreeUpTo_dropHost_step (s : State) (host : PortHost)
    (hanswers : ∀ p, hostAnswer host s.portLog p = hostAnswer s.portHost s.portLog p) :
    agreeUpTo dropHost (step s) (step { s with portHost := host }) := by
  have h := sameAccesses_updatePortHost s host
  refine agreeUpTo_step h rfl rfl fun i => agreeUpTo_exec h (fun _ _ => rfl) ?_
  obtain ⟨-, -, hhost⟩ := effect_independence (formOf i) s s.inte s.flags.ac host
  exact hhost hanswers

end Sys2Proof.Proofs.Independence
end

section
/-! PROOF. The data-transfer instructions (40_data_transfer.md R201 to R216): the bytes of each form, and its outcome as
the state its effect leaves. -/

namespace Sys2Proof.Proofs.DataTransfer

open Sys2Proof.Machine Sys2Proof.Safety Sys2Proof.Claims Sys2Proof.Proofs.Outcomes

/-! ### Encodings -/

theorem encode_movRR (dst src : Reg) :
    encode (instrOf (.movRR dst src)) = [(0b01#2 ++ regCode dst ++ regCode src : Byte)] := by
  cases dst <;> cases src <;> rfl

theorem encode_movRM (dst : Reg) : encode (instrOf (.movRM dst)) = [(0b01#2 ++ regCode dst ++ 0b110#3 : Byte)] := by
  cases dst <;> rfl

theorem encode_movMR (src : Reg) : encode (instrOf (.movMR src)) = [(0b01110#5 ++ regCode src : Byte)] := by
  cases src <;> rfl

theorem encode_mviR (dst : Reg) (imm : Byte) :
    encode (instrOf (.mviR dst imm)) = [(0b00#2 ++ regCode dst ++ 0b110#3 : Byte), imm] := by
  cases dst <;> rfl

theorem lowHigh_assemble (b2 b3 : Byte) : [loByte (assemble b3 b2), hiByte (assemble b3 b2)] = [b2, b3] := by
  rw [loByte_assemble, hiByte_assemble]

theorem encode_lxi (p : Pair) (b2 b3 : Byte) :
    encode (instrOf (.lxi p (assemble b3 b2))) = [(0b00#2 ++ pairCode p ++ 0b0001#4 : Byte), b2, b3] := by
  cases p <;> exact congrArg (List.cons _) (lowHigh_assemble b2 b3)

/-! ### The statements -/

/-- Settles O31: the field codes, and the outcome of each of the three forms. -/
theorem movCopiesAByte : Obligations.MovCopiesAByte := by
  intro s
  refine ⟨fun dst src => ⟨encode_movRR dst src, ?_⟩, fun dst => ⟨encode_movRM dst, ?_⟩,
    fun src => ⟨encode_movMR src, ?_⟩⟩
  · exact exec_of_noAccess (formOf_instrOf _) rfl rfl rfl
  · exact runsWithin_of_form (formOf_instrOf _) (fun _ => Iff.rfl) rfl
  · exact runsWithin_of_form (formOf_instrOf _) (fun _ => Iff.rfl) rfl

theorem setPair_assemble (s : State) (p : Pair) (hi lo : Byte) :
    s.setPair p (assemble hi lo) = (s.setReg (highReg p) hi).setReg (lowReg p) lo := by
  rw [State.setPair, hiByte_assemble, loByte_assemble]

/-- Settles O32; the immediate word of LXI is split into the two bytes it was assembled from. -/
theorem immediateLoadsWriteTheImmediate : Obligations.ImmediateLoadsWriteTheImmediate := by
  intro s
  refine ⟨fun dst imm => ⟨encode_mviR dst imm, ?_⟩, fun imm => ⟨rfl, ?_⟩, fun p b2 b3 => ⟨encode_lxi p b2 b3, ?_⟩⟩
  · exact exec_of_noAccess (formOf_instrOf _) rfl rfl rfl
  · exact runsWithin_of_form rfl (fun _ => Iff.rfl) rfl
  · rw [← setPair_assemble]
    exact exec_of_noAccess (formOf_instrOf _) rfl rfl rfl

/-- Settles O33: each form accesses its one address. -/
theorem accumulatorLoadsAndStoresMoveOneByte : Obligations.AccumulatorLoadsAndStoresMoveOneByte := by
  intro s
  refine ⟨fun b2 b3 => ⟨?_, ?_⟩, fun addr => ⟨?_, ?_⟩, rfl, ?_, rfl, ?_, rfl, ?_, rfl, ?_⟩
  · exact congrArg (List.cons _) (lowHigh_assemble b2 b3)
  · exact congrArg (List.cons _) (lowHigh_assemble b2 b3)
  all_goals exact runsWithin_of_form rfl (fun _ => Iff.rfl) rfl

/-- Settles O34: each form accesses its two addresses. -/
theorem lhldAndShldMoveHl : Obligations.LhldAndShldMoveHl := by
  intro s
  refine ⟨fun b2 b3 => ⟨?_, ?_⟩, fun addr => ⟨?_, ?_⟩⟩
  · exact congrArg (List.cons _) (lowHigh_assemble b2 b3)
  · exact congrArg (List.cons _) (lowHigh_assemble b2 b3)
  all_goals exact runsWithin_of_form rfl (fun _ => Iff.rfl) rfl

theorem exec_xchg (s : State) :
    exec .xchg s = .next { s with h := s.d, l := s.e, d := s.h, e := s.l, pc := s.pc + 1 } := by
  refine exec_of_noAccess (f := .xchg) rfl rfl rfl ?_
  simp [stateAfter, effect, branchTarget, formOperands, State.pair, State.reg, State.setPair, State.setReg, highReg,
    lowReg]

/-- Settles O35: the exchange, made twice. -/
theorem xchgSwapsHlAndDe : Obligations.XchgSwapsHlAndDe := by
  intro s
  refine ⟨rfl, exec_xchg s, fun t h => ?_⟩
  rw [exec_xchg, Host.Outcome.next.injEq] at h
  subst h
  exact ⟨_, exec_xchg _, rfl, rfl⟩

end Sys2Proof.Proofs.DataTransfer
end

section
/-! PROOF. The flag computations in the spec's words (10_state.md R41 to R52): Z, S and P of a result, and the sums and
differences with their carries. -/

namespace Sys2Proof.Proofs.FlagWords

open Sys2Proof.Machine Sys2Proof.Claims

theorem parity8_eq (v : Byte) : parity8 v = evenOnes v := by
  have hcount : ((List.range 8).filter fun k => v.getLsbD k).length =
      (v.getLsbD 7).toNat + (v.getLsbD 6).toNat + (v.getLsbD 5).toNat + (v.getLsbD 4).toNat +
        (v.getLsbD 3).toNat + (v.getLsbD 2).toNat + (v.getLsbD 1).toNat + (v.getLsbD 0).toNat := by
    rw [← List.countP_eq_length_filter]
    simp [List.range_succ, List.countP_cons, Bool.toNat, Bool.cond_eq_ite]
  rw [parity8, evenOnes, hcount]

theorem getLsbD_seven (v : Byte) : v.getLsbD 7 = decide (v.toNat ≥ 128) :=
  BitVec.msb_eq_decide v

/-- The five flags with Z, S and P from a result byte. -/
theorem szp_with (res : Byte) (cy ac : Bool) (f : Flags) :
    { szp res f with cy := cy, ac := ac } = resultFlags res cy ac := by
  rw [szp, resultFlags, getLsbD_seven, parity8_eq]

theorem aluFlags_eq (r : AluOut) (f : Flags) : aluFlags r f = resultFlags r.res r.cy r.ac :=
  szp_with _ _ _ _

theorem incFlags_eq (r : AluOut) (f : Flags) : incFlags r f = resultFlags r.res f.cy r.ac :=
  szp_with _ _ _ _

/-! ### Addition and subtraction -/

theorem add8_eq (a b : Byte) (cin : Bool) :
    add8 a b cin =
      { res := a + b + BitVec.ofNat 8 cin.toNat
        cy := decide (a.toNat + b.toNat + cin.toNat > 255)
        ac := decide (a.toNat % 16 + b.toNat % 16 + cin.toNat > 15) } := by
  rw [add8, BitVec.ofNat_add, BitVec.ofNat_add, BitVec.ofNat_toNat, BitVec.ofNat_toNat, BitVec.setWidth_eq,
    BitVec.setWidth_eq]

theorem ofInt_sub_toNat (a b : Byte) (n : Nat) :
    BitVec.ofInt 8 ((a.toNat : Int) - b.toNat - n) = a - b - BitVec.ofNat 8 n := by
  simp only [Int.sub_eq_add_neg, BitVec.ofInt_add, BitVec.ofInt_neg, BitVec.ofInt_natCast, BitVec.ofNat_toNat,
    BitVec.setWidth_eq, BitVec.sub_eq_add_neg]

/-- R49 without the two's complement: AC is set when nothing is borrowed out of the low digit (D10). -/
theorem sub8_eq (a b : Byte) (bin : Bool) :
    sub8 a b bin =
      { res := a - b - BitVec.ofNat 8 bin.toNat
        cy := decide (a.toNat < b.toNat + bin.toNat)
        ac := decide (b.toNat % 16 + bin.toNat ≤ a.toNat % 16) } := by
  have hac : a.toNat % 16 + (~~~b).toNat % 16 + (1 - bin.toNat) > 0xF ↔
      b.toNat % 16 + bin.toNat ≤ a.toNat % 16 := by
    have hb := b.isLt
    have hbin := bin.toNat_le
    rw [BitVec.toNat_not]
    omega
  simp only [sub8, ofInt_sub_toNat, hac]

/-! ### Without a carry, and by one -/

theorem add8_noCarry (a b : Byte) :
    add8 a b false =
      { res := a + b
        cy := decide (a.toNat + b.toNat > 255)
        ac := decide (a.toNat % 16 + b.toNat % 16 > 15) } := by
  simp [add8_eq]

theorem sub8_noBorrow (a b : Byte) :
    sub8 a b false =
      { res := a - b
        cy := decide (a.toNat < b.toNat)
        ac := decide (b.toNat % 16 ≤ a.toNat % 16) } := by
  simp [sub8_eq]

theorem incFlags_add8_one (v : Byte) (f : Flags) :
    incFlags (add8 v 1 false) f = resultFlags (v + 1) f.cy (decide (v.toNat % 16 = 15)) := by
  have hac : v.toNat % 16 + (1 : Byte).toNat % 16 > 15 ↔ v.toNat % 16 = 15 := by
    change v.toNat % 16 + 1 > 15 ↔ _
    omega
  simp only [incFlags_eq, add8_noCarry, hac]

theorem incFlags_sub8_one (v : Byte) (f : Flags) :
    incFlags (sub8 v 1 false) f = resultFlags (v - 1) f.cy (decide (v.toNat % 16 ≠ 0)) := by
  have hac : (1 : Byte).toNat % 16 ≤ v.toNat % 16 ↔ v.toNat % 16 ≠ 0 := Nat.one_le_iff_ne_zero
  simp only [incFlags_eq, sub8_noBorrow, hac]

theorem add16_eq (x y : Word) : add16 x y = (x + y, decide (x.toNat + y.toNat > 65535)) := by
  rw [add16, BitVec.ofNat_add, BitVec.ofNat_toNat, BitVec.ofNat_toNat, BitVec.setWidth_eq, BitVec.setWidth_eq]

end Sys2Proof.Proofs.FlagWords
end

section
/-! PROOF. The accumulator operations in their register, M and immediate forms (41_arithmetic.md R231 to R242,
42_logical.md R271 to R282): one statement about the three forms of an operation, and what each operation computes. -/

namespace Sys2Proof.Proofs.Accumulator

open Sys2Proof.Machine Sys2Proof.Safety Sys2Proof.Claims
open Sys2Proof.Proofs.Outcomes Sys2Proof.Proofs.FlagWords

/-- The three forms of an operation leave the same state, for the byte each takes as its operand. -/
theorem accumulator_forms (op : AccOp) {s : State} {after : Byte → State}
    (h : ∀ v, withAcc s (accEffect op v s) = after v) :
    (∀ r : Reg, exec (instrOf (.accR op r)) s = .next { after (s.reg r) with pc := s.pc + 1 }) ∧
    RunsWithin (instrOf (.accM op)) s [s.pair .hl] { after (byteAt s (s.pair .hl)) with pc := s.pc + 1 } ∧
    (∀ imm : Byte, exec (instrOf (.accI op imm)) s = .next { after imm with pc := s.pc + 2 }) := by
  obtain rfl : after = fun v => withAcc s (accEffect op v s) := funext fun v => (h v).symm
  refine ⟨fun r => ?_, ?_, fun imm => ?_⟩
  · exact exec_of_noAccess (formOf_instrOf _) rfl rfl rfl
  · exact runsWithin_of_form (formOf_instrOf _) (fun _ => Iff.rfl) rfl
  · exact exec_of_noAccess (formOf_instrOf _) rfl rfl rfl

theorem encode_addR (r : Reg) : encode (instrOf (.accR .add r)) = [(0b10000#5 ++ regCode r : Byte)] := by
  cases r <;> rfl

/-- Settles O36: the forms of ADD, with the sum as `add8_noCarry` gives it. -/
theorem addComputesTheSumAndAllFlags : Obligations.AddComputesTheSumAndAllFlags := by
  intro s
  obtain ⟨hreg, hmem, himm⟩ := accumulator_forms .add (s := s) fun v => by
    rw [accEffect, aluFlags_eq, add8_noCarry, withAcc]
  exact ⟨fun r => ⟨encode_addR r, hreg r⟩, rfl, hmem, fun imm => ⟨rfl, himm imm⟩⟩

/-- Settles O37: the forms of ADC and of SBB, with the carry-in kept in `add8_eq` and `sub8_eq`. -/
theorem adcAndSbbUseTheIncomingCarry : Obligations.AdcAndSbbUseTheIncomingCarry := by
  intro s
  obtain ⟨hreg, hmem, himm⟩ := accumulator_forms .adc (s := s) fun v => by
    rw [accEffect, aluFlags_eq, add8_eq, withAcc]
  obtain ⟨hreg', hmem', himm'⟩ := accumulator_forms .sbb (s := s) fun v => by
    rw [accEffect, aluFlags_eq, sub8_eq, withAcc]
  exact ⟨fun r => ⟨hreg r, hreg' r⟩, hmem, hmem', fun imm => ⟨himm imm, himm' imm⟩⟩

/-- Settles O38: the forms of SUB, with the difference as `sub8_noBorrow` gives it. -/
theorem subComputesTheDifferenceAndAllFlags : Obligations.SubComputesTheDifferenceAndAllFlags := by
  intro s
  exact accumulator_forms .sub fun v => by rw [accEffect, aluFlags_eq, sub8_noBorrow, withAcc]

theorem logicFlags_and (a b : Byte) (f : Flags) :
    logicFlags .and a b (logic8 .and a b) f = resultFlags (a &&& b) false (decide ((a ||| b).toNat / 8 % 2 = 1)) := by
  have hac : andAuxCarry a b = decide ((a ||| b).toNat / 8 % 2 = 1) := by
    rw [andAuxCarry, BitVec.getLsbD, Nat.testBit_eq_decide_div_mod_eq]
  rw [← hac]
  exact szp_with _ _ _ f

/-- Settles O45: the forms of ANA, with the flags as `logicFlags_and` gives them. -/
theorem andClearsCarryAndSetsAcFromBitThree : Obligations.AndClearsCarryAndSetsAcFromBitThree := by
  intro s
  exact accumulator_forms .ana fun v => by rw [accEffect, logicFlags_and, withAcc, logic8]

/-- Settles O46: the forms of XRA and of ORA. -/
theorem xorAndOrClearCarryAndAc : Obligations.XorAndOrClearCarryAndAc := by
  intro s
  obtain ⟨hreg, hmem, himm⟩ := accumulator_forms .xra (s := s) fun v => by
    rw [accEffect, logicFlags, szp_with, withAcc, logic8]
  obtain ⟨hreg', hmem', himm'⟩ := accumulator_forms .ora (s := s) fun v => by
    rw [accEffect, logicFlags, szp_with, withAcc, logic8]
  exact ⟨fun r => ⟨hreg r, hreg' r⟩, hmem, hmem', fun imm => ⟨himm imm, himm' imm⟩⟩

/-- A difference is 0 exactly when the operands are equal. -/
theorem resultFlags_sub (a b : Byte) (cy ac : Bool) :
    resultFlags (a - b) cy ac =
      { z := decide (a = b), s := decide ((a - b).toNat ≥ 128), p := evenOnes (a - b), cy := cy, ac := ac } := by
  simp only [resultFlags, sub_eq_zero]

/-- Settles O47: the forms of CMP; A is not in what they leave. -/
theorem compareWritesOnlyTheFlags : Obligations.CompareWritesOnlyTheFlags := by
  intro s
  exact accumulator_forms .cmp fun v => by
    rw [accEffect, aluFlags_eq, sub8_noBorrow, resultFlags_sub, withAcc]

end Sys2Proof.Proofs.Accumulator
end

section
/-! PROOF. The arithmetic without an accumulator operand (41_arithmetic.md R243 to R254): INR, DCR, INX, DCX, DAD, and
the decimal correction. -/

namespace Sys2Proof.Proofs.Arithmetic

open Sys2Proof.Machine Sys2Proof.Safety Sys2Proof.Claims
open Sys2Proof.Proofs.Outcomes Sys2Proof.Proofs.FlagWords Sys2Proof.Proofs.Accumulator
open Sys2Proof.Proofs.DataTransfer

/-! ### INR and DCR -/

/-- Settles O39: the sum and the difference with 1; M reads and writes one address. -/
theorem inrAndDcrLeaveCarry : Obligations.InrAndDcrLeaveCarry := by
  intro s
  refine ⟨fun r => ⟨?_, ?_⟩, ?_, ?_⟩
  · refine exec_of_noAccess (formOf_instrOf _) rfl rfl ?_
    rw [stateAfter, effect, incFlags_add8_one, add8_noCarry]
    rfl
  · refine exec_of_noAccess (formOf_instrOf _) rfl rfl ?_
    rw [stateAfter, effect, incFlags_sub8_one, sub8_noBorrow]
    rfl
  · refine runsWithin_of_form (f := .inrM) rfl (by simp [loadAddrs, storeAddrs]) ?_
    rw [stateAfter, effect, incFlags_add8_one, add8_noCarry]
    rfl
  · refine runsWithin_of_form (f := .dcrM) rfl (by simp [loadAddrs, storeAddrs]) ?_
    rw [stateAfter, effect, incFlags_sub8_one, sub8_noBorrow]
    rfl

/-! ### INX, DCX and DAD -/

theorem encode_inx (p : Pair) : encode (instrOf (.inx p)) = [(0b00#2 ++ pairCode p ++ 0b0011#4 : Byte)] := by
  cases p <;> rfl

theorem encode_dcx (p : Pair) : encode (instrOf (.dcx p)) = [(0b00#2 ++ pairCode p ++ 0b1011#4 : Byte)] := by
  cases p <;> rfl

theorem encode_dad (p : Pair) : encode (instrOf (.dad p)) = [(0b00#2 ++ pairCode p ++ 0b1001#4 : Byte)] := by
  cases p <;> rfl

/-- Settles O40: no access, and a pair write that touches no flag. -/
theorem inxAndDcxStepAPairWithoutFlags : Obligations.InxAndDcxStepAPairWithoutFlags := by
  intro p s
  refine ⟨encode_inx p, ?_, encode_dcx p, ?_⟩
  · exact exec_of_noAccess (formOf_instrOf _) rfl rfl rfl
  · exact exec_of_noAccess (formOf_instrOf _) rfl rfl rfl

theorem withSum_eq (s : State) (v : Word) :
    withSum s v =
      { s.setPair .hl (s.pair .hl + v) with
        flags := { s.flags with cy := decide ((s.pair .hl).toNat + v.toNat > 65535) } } := by
  rw [withSum, add16_eq]

/-- Settles O41: the 16-bit sum as `withSum_eq` gives it. -/
theorem dadAddsIntoHlAndWritesOnlyCarry : Obligations.DadAddsIntoHlAndWritesOnlyCarry := by
  intro p s
  refine ⟨encode_dad p, exec_of_noAccess (formOf_instrOf _) rfl rfl ?_⟩
  rw [stateAfter, effect, withSum_eq]
  rfl

/-- Settles O42: SP in the place of the pair. -/
theorem spIsTheFourthPairOfLxiInxDcxDad : Obligations.SpIsTheFourthPairOfLxiInxDcxDad := by
  intro s
  refine ⟨fun b2 b3 => ⟨congrArg (List.cons _) (lowHigh_assemble b2 b3), ?_⟩, rfl, ?_, rfl, ?_, rfl, ?_⟩
  · exact exec_of_noAccess rfl rfl rfl rfl
  · exact exec_of_noAccess rfl rfl rfl rfl
  · exact exec_of_noAccess rfl rfl rfl rfl
  · refine exec_of_noAccess (f := .dadSP) rfl rfl rfl ?_
    rw [stateAfter, effect, withSum_eq]
    rfl

/-! ### The decimal correction -/

/-- R253's test of the high digit, on the whole byte. -/
theorem highDigit_iff (n : Nat) : (n / 16 > 9 ∨ n / 16 ≥ 9 ∧ n % 16 > 9) ↔ n > 0x99 := by omega

/-- The two corrections do not overlap, so that their OR is their sum. -/
theorem correction_eq (low high : Bool) :
    ((if low then 0x06 else 0x00) ||| (if high then 0x60 else 0x00) : Byte) =
      (if low then 0x06 else 0x00) + (if high then 0x60 else 0x00) := by
  cases low <;> cases high <;> rfl

theorem correction_low (low high : Bool) :
    ((if low then 0x06 else 0x00) + (if high then 0x60 else 0x00) : Byte).toNat % 16 = if low then 6 else 0 := by
  cases low <;> cases high <;> rfl

/-- A carry out of the low digit needs a low digit above 9, AC or not. -/
theorem lowCarry_eq (n : Nat) (ac : Bool) :
    decide (n % 16 + (if decide (n % 16 > 9) || ac then 6 else 0) > 15) = decide (n % 16 > 9) := by
  by_cases h : n % 16 > 9
  · simp only [h, decide_true, Bool.true_or, if_true]
    exact decide_eq_true (by omega)
  · simp only [h, decide_false, Bool.false_or]
    refine decide_eq_false ?_
    split <;> omega

theorem daa8_eq (a : Byte) (cy ac : Bool) :
    daa8 a cy ac =
      { res := a + (if decide (a.toNat % 16 > 9) || ac then 0x06 else 0x00) +
          (if decide (a.toNat > 0x99) || cy then 0x60 else 0x00)
        cy := decide (a.toNat > 0x99) || cy
        ac := decide (a.toNat % 16 > 9) } := by
  have hhigh : (decide (a.toNat / 16 > 9) || cy || (decide (a.toNat / 16 ≥ 9) && decide (a.toNat % 16 > 9))) =
      (decide (a.toNat > 0x99) || cy) := by
    rw [Bool.or_right_comm, ← Bool.decide_and, ← Bool.decide_or, decide_eq_decide.mpr (highDigit_iff _)]
  have hcy : (if (decide (a.toNat > 0x99) || cy) = true then true else cy) = (decide (a.toNat > 0x99) || cy) := by
    cases cy <;> simp
  simp only [daa8, hhigh, hcy, correction_eq, add8_noCarry, correction_low, lowCarry_eq, BitVec.add_assoc]

/-- Settles O43: the correction as `daa8_eq` gives it. -/
theorem daaAppliesTheDecimalCorrection : Obligations.DaaAppliesTheDecimalCorrection := by
  intro s
  refine exec_of_noAccess (f := .daa) rfl rfl rfl ?_
  rw [stateAfter, effect, aluFlags_eq, daa8_eq]
  rfl

/-! ### Decimal addition -/

theorem bcd_toNat {n : Nat} (h : n < 100) : (bcd n).toNat = 16 * (n / 10) + n % 10 := by
  rw [bcd, BitVec.toNat_ofNat]
  omega

/-- After the addition the low digit needs its correction exactly when the decimal digits add up to more than 9. -/
theorem lowCorrection_iff {x y c : Nat} (hc : c ≤ 1) :
    ((16 * (x / 10) + x % 10 + (16 * (y / 10) + y % 10) + c) % 256 % 16 > 9 ∨ x % 10 + y % 10 + c > 15) ↔
      x % 10 + y % 10 + c > 9 := by
  omega

/-- A byte and its carry are above 99h exactly when the sum they stand for is. -/
theorem byte_or_carry_iff (n : Nat) : (n % 256 > 0x99 ∨ n > 255) ↔ n > 0x99 := by omega

/-- The high digit needs its correction exactly when the decimal sum passes 99. -/
theorem highCorrection_iff {x y c : Nat} (hc : c ≤ 1) :
    16 * (x / 10) + x % 10 + (16 * (y / 10) + y % 10) + c > 0x99 ↔ x + y + c > 99 := by
  obtain htens | htens := Nat.lt_or_ge (x / 10 + y / 10) 10 <;> omega

theorem corrected_sum {x y c : Nat} (hx : x < 100) (hy : y < 100) (hc : c ≤ 1) :
    (16 * (x / 10) + x % 10 + (16 * (y / 10) + y % 10) + c + (if x % 10 + y % 10 + c > 9 then 6 else 0) +
      (if x + y + c > 99 then 96 else 0)) % 256 = 16 * ((x + y + c) % 100 / 10) + (x + y + c) % 100 % 10 := by
  split <;> split <;> omega

/-- The adjustment after an addition of two decimal bytes. -/
theorem daa8_add8_bcd {x y : Nat} (hx : x < 100) (hy : y < 100) (cin : Bool) :
    let r := add8 (bcd x) (bcd y) cin
    (daa8 r.res r.cy r.ac).res = bcd ((x + y + cin.toNat) % 100) ∧
      (daa8 r.res r.cy r.ac).cy = decide (x + y + cin.toNat > 99) := by
  have hc := cin.toNat_le
  have hsum : (bcd x + bcd y + BitVec.ofNat 8 cin.toNat).toNat =
      (16 * (x / 10) + x % 10 + (16 * (y / 10) + y % 10) + cin.toNat) % 256 := by
    simp only [BitVec.toNat_add, BitVec.toNat_ofNat, bcd_toNat hx, bcd_toNat hy]
    omega
  have hlow (n m : Nat) : (16 * n + m % 10) % 16 = m % 10 := by omega
  simp only [add8_eq, daa8_eq, hsum, bcd_toNat hx, bcd_toNat hy, hlow, ← Bool.decide_or,
    lowCorrection_iff hc, byte_or_carry_iff, highCorrection_iff hc, and_true]
  apply BitVec.eq_of_toNat_eq
  rw [bcd_toNat (Nat.mod_lt _ (by decide)), ← corrected_sum hx hy hc, BitVec.toNat_add, BitVec.toNat_add, hsum]
  simp only [decide_eq_true_eq]
  split <;> split <;> simp

/-- Settles O44: ADC leaves the sum of the two bytes and its carries, and DAA adjusts it. -/
theorem adcThenDaaAddsDecimalNumbers : Obligations.AdcThenDaaAddsDecimalNumbers := by
  intro s t r x y hx hy ha hr h
  obtain ⟨-, rfl⟩ := exec_next_iff.mp h
  obtain ⟨hres, hcy⟩ := daa8_add8_bcd hx hy s.flags.cy
  rw [← ha, ← hr] at hres hcy
  rw [formOf_instrOf]
  exact ⟨_, exec_of_noAccess rfl rfl rfl rfl, hres, hcy⟩

end Sys2Proof.Proofs.Arithmetic
end

section
/-! PROOF. The rotates, the complements and STC (42_logical.md R283 to R289). -/

namespace Sys2Proof.Proofs.Rotates

open Sys2Proof.Machine Sys2Proof.Safety Sys2Proof.Claims Sys2Proof.Proofs.Outcomes

/-! ### The rotates as rotations

Bit by bit: each bit of the result is its neighbour, and the end bit is the one rotated around, 0 or 1. -/

theorem rotate8_rlc (a : Byte) (cy : Bool) : rotate8 .rlc a cy = (a.rotateLeft 1, a.getLsbD 7) := by
  refine Prod.ext ?_ rfl
  ext i hi
  interval_cases i <;> cases h : a[7] <;> simp [rotate8, BitVec.getElem_rotateLeft, h]

theorem rotate8_rrc (a : Byte) (cy : Bool) : rotate8 .rrc a cy = (a.rotateRight 1, a.getLsbD 0) := by
  refine Prod.ext ?_ rfl
  ext i hi
  interval_cases i <;> cases h : a[0] <;> simp [rotate8, BitVec.getElem_rotateRight, h]

/-- RAL rotates the 9-bit word CY:A. -/
theorem rotate8_ral (x : BitVec 9) :
    rotate8 .ral (x.setWidth 8) (x.getLsbD 8) = ((x.rotateLeft 1).setWidth 8, (x.rotateLeft 1).getLsbD 8) := by
  refine Prod.ext ?_ ?_
  · ext i hi
    interval_cases i <;> cases h : x[8] <;> simp [rotate8, BitVec.getElem_rotateLeft, h]
  · simp [rotate8, BitVec.getElem_rotateLeft]

/-- RAR rotates the 9-bit word CY:A. -/
theorem rotate8_rar (x : BitVec 9) :
    rotate8 .rar (x.setWidth 8) (x.getLsbD 8) = ((x.rotateRight 1).setWidth 8, (x.rotateRight 1).getLsbD 8) := by
  refine Prod.ext ?_ ?_
  · ext i hi
    interval_cases i <;> cases h : x[8] <;> simp [rotate8, BitVec.getElem_rotateRight, h]
  · simp [rotate8, BitVec.getElem_rotateRight]

theorem setWidth_carryA (s : State) : (carryA s).setWidth 8 = s.a := by
  rw [carryA]
  exact BitVec.setWidth_append_eq_right

theorem getLsbD_carryA (s : State) : (carryA s).getLsbD 8 = s.flags.cy := by
  rw [carryA, BitVec.getLsbD_append]
  simp

theorem rotate8_ral_carryA (s : State) :
    rotate8 .ral s.a s.flags.cy =
      (((carryA s).rotateLeft 1).setWidth 8, ((carryA s).rotateLeft 1).getLsbD 8) := by
  simpa only [setWidth_carryA, getLsbD_carryA] using rotate8_ral (carryA s)

theorem rotate8_rar_carryA (s : State) :
    rotate8 .rar s.a s.flags.cy =
      (((carryA s).rotateRight 1).setWidth 8, ((carryA s).rotateRight 1).getLsbD 8) := by
  simpa only [setWidth_carryA, getLsbD_carryA] using rotate8_rar (carryA s)

/-! ### The statements -/

/-- Settles O48: each rotate as a rotation of eight or of nine bits. -/
theorem rotatesMoveOneBit : Obligations.RotatesMoveOneBit := by
  intro s
  refine ⟨?_, ?_, ?_, ?_⟩
  · refine exec_of_noAccess (f := .rlc) rfl rfl rfl ?_
    rw [stateAfter, effect, rotated, rotate8_rlc]
    rfl
  · refine exec_of_noAccess (f := .rrc) rfl rfl rfl ?_
    rw [stateAfter, effect, rotated, rotate8_rrc]
    rfl
  · refine exec_of_noAccess (f := .ral) rfl rfl rfl ?_
    rw [stateAfter, effect, rotated, rotate8_ral_carryA]
    rfl
  · refine exec_of_noAccess (f := .rar) rfl rfl rfl ?_
    rw [stateAfter, effect, rotated, rotate8_rar_carryA]
    rfl

/-- Settles O49; complementing is an exclusive or with ones. -/
theorem complementsAndSetCarry : Obligations.ComplementsAndSetCarry := by
  intro s
  refine ⟨rfl, ?_, rfl, exec_of_noAccess rfl rfl rfl rfl, rfl, exec_of_noAccess rfl rfl rfl rfl⟩
  refine exec_of_noAccess (f := .cma) rfl rfl rfl ?_
  rw [stateAfter, effect, show (0xFF : Byte) = BitVec.allOnes 8 from rfl, BitVec.xor_allOnes]
  rfl

end Sys2Proof.Proofs.Rotates
end

section
/-! PROOF. Jumps, calls, returns, restarts and the stack instructions (43_branch_stack.md R300 to R344). A conditional
form is NOP of its length or the unconditional one, by its condition. -/

namespace Sys2Proof.Proofs.BranchStack

open Sys2Proof.Machine Sys2Proof.Safety Sys2Proof.Claims
open Sys2Proof.Proofs.Outcomes Sys2Proof.Proofs.DataTransfer Sys2Proof.Proofs.MemoryLaws

/-! ### Conditions -/

theorem condTrue_iff (cond : Cond) (f : Flags) : condTrue cond f ↔ condHolds cond f = true := by
  cases cond <;> simp [condTrue, condHolds]

theorem condHolds_of_condTrue {cond : Cond} {f : Flags} (h : condTrue cond f) : condHolds cond f = true :=
  (condTrue_iff cond f).mp h

theorem condHolds_of_not_condTrue {cond : Cond} {f : Flags} (h : ¬ condTrue cond f) : condHolds cond f = false :=
  Bool.eq_false_of_not_eq_true (mt (condTrue_iff cond f).mpr h)

/-! ### Encodings -/

theorem encode_jcc (cond : Cond) (b2 b3 : Byte) :
    encode (instrOf (.jcc cond (assemble b3 b2))) = [(0b11#2 ++ condCode cond ++ 0b010#3 : Byte), b2, b3] := by
  cases cond <;> exact congrArg (List.cons _) (lowHigh_assemble b2 b3)

theorem encode_ccc (cond : Cond) (b2 b3 : Byte) :
    encode (instrOf (.ccc cond (assemble b3 b2))) = [(0b11#2 ++ condCode cond ++ 0b100#3 : Byte), b2, b3] := by
  cases cond <;> exact congrArg (List.cons _) (lowHigh_assemble b2 b3)

theorem encode_rcc (cond : Cond) :
    encode (instrOf (.rcc cond)) = [(0b11#2 ++ condCode cond ++ 0b000#3 : Byte)] := by
  cases cond <;> rfl

theorem encode_rst (n : RstNum) : encode (instrOf (.rst n)) = [(0b11#2 ++ rstCode n ++ 0b111#3 : Byte)] := by
  cases n <;> rfl

theorem encode_push (p : Pair) : encode (instrOf (.push p)) = [(0b11#2 ++ pairCode p ++ 0b0101#4 : Byte)] := by
  cases p <;> rfl

theorem encode_pop (p : Pair) : encode (instrOf (.pop p)) = [(0b11#2 ++ pairCode p ++ 0b0001#4 : Byte)] := by
  cases p <;> rfl

/-! ### A condition that is false -/

section
variable {cond : Cond} {s : State} (h : ¬ condTrue cond s.flags)
include h

theorem exec_jcc_notTaken (addr : Word) :
    exec (instrOf (.jcc cond addr)) s = .next { s with pc := s.pc + 3 } := by
  refine exec_of_noAccess (formOf_instrOf _) rfl rfl ?_
  simp only [stateAfter, branchTarget, condHolds_of_not_condTrue h]
  rfl

theorem exec_ccc_notTaken (addr : Word) :
    exec (instrOf (.ccc cond addr)) s = .next { s with pc := s.pc + 3 } := by
  refine exec_of_noAccess (formOf_instrOf _) rfl ?_ ?_
  · simp [storeAddrs, condHolds_of_not_condTrue h]
  · simp only [stateAfter, effect, branchTarget, condHolds_of_not_condTrue h]
    rfl

theorem exec_rcc_notTaken : exec (instrOf (.rcc cond)) s = .next { s with pc := s.pc + 1 } := by
  refine exec_of_noAccess (formOf_instrOf _) ?_ rfl ?_
  · simp [loadAddrs, condHolds_of_not_condTrue h]
  · simp only [stateAfter, effect, branchTarget, condHolds_of_not_condTrue h]
    rfl

end

/-! ### A condition that is true -/

section
variable {cond : Cond} {s : State} (h : condTrue cond s.flags)
include h

theorem exec_jcc_taken (addr : Word) : exec (instrOf (.jcc cond addr)) s = .next { s with pc := addr } := by
  refine exec_of_noAccess (formOf_instrOf _) rfl rfl ?_
  simp only [stateAfter, branchTarget, condHolds_of_condTrue h]
  rfl

theorem runsWithin_ccc_taken (addr : Word) :
    RunsWithin (instrOf (.ccc cond addr)) s [s.sp - 1, s.sp - 2] { pushed s (s.pc + 3) with pc := addr } := by
  refine runsWithin_of_form (formOf_instrOf _) (fun a => ?_) ?_
  · simp [loadAddrs, storeAddrs, pushAddrs, condHolds_of_condTrue h]
  · simp only [stateAfter, effect, branchTarget, condHolds_of_condTrue h]
    rfl

theorem runsWithin_rcc_taken :
    RunsWithin (instrOf (.rcc cond)) s [s.sp, s.sp + 1]
      { s with sp := s.sp + 2, pc := assemble (byteAt s (s.sp + 1)) (byteAt s s.sp) } := by
  refine runsWithin_of_form (formOf_instrOf _) (fun a => ?_) ?_
  · simp [loadAddrs, storeAddrs, topAddrs, condHolds_of_condTrue h]
  · simp only [stateAfter, effect, branchTarget, condHolds_of_condTrue h]
    rfl

end

/-! ### Jumps, calls and returns -/

/-- Settles O50: the condition decides between the target and PC + 3. -/
theorem jumpsSetPcWhenTaken : Obligations.JumpsSetPcWhenTaken := by
  intro s
  refine ⟨fun b2 b3 => congrArg (List.cons _) (lowHigh_assemble b2 b3), fun addr => ?_, rfl, ?_, encode_jcc,
    fun cond addr => ⟨fun h => exec_jcc_taken h addr, fun h => exec_jcc_notTaken h addr⟩⟩
  · exact exec_of_noAccess rfl rfl rfl rfl
  · exact exec_of_noAccess rfl rfl rfl rfl

/-- CALL and the three opcodes that behave as it have one form. -/
theorem formOf_callAliases {addr : Word} {i : Instr}
    (hi : i ∈ [.call addr, .callDD addr, .callED addr, .callFD addr]) : formOf i = .call addr := by
  simp only [List.mem_cons, List.not_mem_nil, or_false] at hi
  obtain rfl | rfl | rfl | rfl := hi <;> rfl

/-- Settles O51: the opcodes of CALL share one form; the condition decides whether there is a call. -/
theorem callsPushTheReturnAddress : Obligations.CallsPushTheReturnAddress := by
  intro s
  refine ⟨fun b2 b3 => ⟨?_, ?_, ?_, ?_⟩, fun addr i hi => ?_, encode_ccc,
    fun cond addr => ⟨fun h => runsWithin_ccc_taken h addr, fun h => exec_ccc_notTaken h addr⟩⟩
  · exact congrArg (List.cons _) (lowHigh_assemble b2 b3)
  · exact congrArg (List.cons _) (lowHigh_assemble b2 b3)
  · exact congrArg (List.cons _) (lowHigh_assemble b2 b3)
  · exact congrArg (List.cons _) (lowHigh_assemble b2 b3)
  · exact runsWithin_of_form (formOf_callAliases hi) (fun _ => Iff.rfl) rfl

/-- RET, opcode D9, and opcode CB read as a return. -/
theorem runsWithin_ret {i : Instr} (hform : formOf i = .ret) (s : State) :
    RunsWithin i s [s.sp, s.sp + 1]
      { s with sp := s.sp + 2, pc := assemble (byteAt s (s.sp + 1)) (byteAt s s.sp) } :=
  runsWithin_of_form hform (fun _ => Iff.rfl) rfl

/-- Settles O52: the opcodes of RET share one form; the condition decides whether there is a return. -/
theorem returnsPopPc : Obligations.ReturnsPopPc := by
  intro s
  refine ⟨rfl, rfl, fun i hi => ?_, fun cond => ⟨encode_rcc cond, runsWithin_rcc_taken, exec_rcc_notTaken⟩⟩
  simp only [List.mem_cons, List.not_mem_nil, or_false] at hi
  obtain rfl | rfl := hi
  · exact runsWithin_ret rfl s
  · exact runsWithin_ret rfl s

/-- Settles O53: the two readings of the byte, a return and a jump. -/
theorem opcodeCbFollowsItsParameter : Obligations.OpcodeCbFollowsItsParameter := by
  intro s
  exact ⟨fun b2 b3 => ⟨rfl, rfl⟩, rfl, runsWithin_ret rfl s, fun addr => exec_of_noAccess rfl rfl rfl rfl⟩

theorem restartVector_eq (n : RstNum) : restartVector n = BitVec.ofNat 16 (8 * (rstCode n).toNat) := by
  cases n <;> rfl

/-- Settles O54: a call to the vector from a one-byte instruction. -/
theorem rstCallsTheFixedVector : Obligations.RstCallsTheFixedVector := by
  intro n s
  refine ⟨encode_rst n, ?_⟩
  rw [← restartVector_eq]
  exact runsWithin_of_form (formOf_instrOf _) (fun _ => Iff.rfl) rfl

/-! ### The stack instructions -/

/-- The stack after two bytes are pushed, the high one first. -/
theorem onStack_assemble (s : State) (hi lo : Byte) :
    onStack s (assemble hi lo) = { stored (stored s (s.sp - 1) hi) (s.sp - 2) lo with sp := s.sp - 2 } := by
  rw [onStack, hiByte_assemble, loByte_assemble]
  rfl

/-- Settles O55: the word pushed is the pair, and the word popped is split into it. -/
theorem pushAndPopMoveAPairAndSphlLoadsSp : Obligations.PushAndPopMoveAPairAndSphlLoadsSp := by
  intro s
  refine ⟨fun p => ⟨encode_push p, ?_, encode_pop p, ?_⟩, rfl, exec_of_noAccess rfl rfl rfl rfl⟩
  · refine runsWithin_of_form (formOf_instrOf _) (fun _ => Iff.rfl) ?_
    rw [stateAfter, effect, State.pair, onStack_assemble]
    rfl
  · refine runsWithin_of_form (formOf_instrOf _) (fun _ => Iff.rfl) ?_
    rw [stateAfter, effect, topWord, setPair_assemble]
    cases p <;> rfl

/-- D17: what unpacking ignores, packing writes as R55 fixes it. -/
theorem packFlags_unpackFlags (b : Byte) : packFlags (unpackFlags b) = (b &&& 0xD5) ||| 0x02 := by
  apply BitVec.eq_of_getLsbD_eq
  intro i hi
  simp only [packFlags, unpackFlags, BitVec.getLsbD_append]
  interval_cases i <;> simp

/-- Settles O56: the word pushed is A and the flag byte; XTHL reads and writes the same two bytes. -/
theorem pswAndXthlMoveTheTopOfTheStack : Obligations.PswAndXthlMoveTheTopOfTheStack := by
  refine ⟨fun s => ⟨?_, ?_, ?_⟩, packFlags_unpackFlags⟩
  · refine runsWithin_of_form (f := .pushPSW) rfl (fun _ => Iff.rfl) ?_
    rw [stateAfter, effect, onStack_assemble]
    rfl
  · exact runsWithin_of_form rfl (fun _ => Iff.rfl) rfl
  · refine runsWithin_of_form (f := .xthl) rfl (fun a => ?_) rfl
    rw [loadAddrs, storeAddrs, List.mem_append, or_self]
    rfl

end Sys2Proof.Proofs.BranchStack
end

section
/-! PROOF. The laws of the stack (43_branch_stack.md R343): what a push, a call or a restart puts on the stack, the pop or
the return after it takes back. -/

namespace Sys2Proof.Proofs.StackLaws

open Sys2Proof.Machine Sys2Proof.Safety Sys2Proof.Claims
open Sys2Proof.Proofs.Outcomes Sys2Proof.Proofs.MemoryLaws Sys2Proof.Proofs.BranchStack Sys2Proof.Proofs.HaltAndNop

/-! ### POP PSW and RET from the operation -/

theorem exec_popPSW_of_pop16 {s t : State} {v : Word} (h : pop16 s = some (v, t)) :
    exec .popPSW s = .next { t with a := hiByte v, flags := unpackFlags (loByte v), pc := s.pc + 1 } := by
  refine exec_of_leavePc (t := { t with a := hiByte v, flags := unpackFlags (loByte v) }) ?_ rfl
  change popPsw s = _
  rw [popPsw, h]
  rfl

theorem exec_ret_of_pop16 {s t : State} {v : Word} (h : pop16 s = some (v, t)) :
    exec .ret s = .next { t with pc := v } := by
  rw [exec_eq, ← complete_setPc .ret s t v]
  change complete .ret (returnFrom s) s = _
  rw [returnFrom, h]
  rfl

/-! ### The pop after a push -/

/-- An instruction that completes with a word `v` pushed leaves the stack from which `v` is popped, in any state with that
SP, memory and parameters. -/
theorem pop16_after_push {i : Instr} {f : Form} {s t u : State} {v : Word} (hform : formOf i = f)
    (hstore : storeAddrs f s = pushAddrs s) (heffect : effect f s = onStack s v) (h : exec i s = .next t)
    (hsp : u.sp = t.sp) (hmem : u.mem = t.mem) (hparams : u.params = t.params) :
    pop16 u = some (v, { u with sp := s.sp }) := by
  subst hform
  obtain ⟨⟨-, hin⟩, rfl⟩ := exec_next_iff.mp h
  rw [stateAfter, heffect] at hsp hmem hparams
  rw [hstore, pushAddrs] at hin
  exact pop16_of_onStack (hin _ (by simp)) (hin _ (by simp)) hsp hmem hparams

/-- Settles O27: each pushing form, followed by what pops its word; and the forms that only advance PC. -/
theorem stackRoundTripLaws : Obligations.StackRoundTripLaws := by
  refine ⟨fun p s t u h hsp hmem hparams => ?_, fun s t u h hsp hmem hparams => ?_, fun addr s t h => ?_,
    fun n s t h => ?_, fun cond addr s h => ?_⟩
  · have hpop := pop16_after_push (formOf_instrOf _) rfl rfl h hsp hmem hparams
    refine ⟨_, exec_pop_of_pop16 hpop, ?_, ?_⟩
    · rw [State.pair_updatePc, State.pair_setPair]
    · exact State.setPair_sp _ p _
  · have hpop := pop16_after_push (f := .pushPSW) rfl rfl rfl h hsp hmem hparams
    refine ⟨_, exec_popPSW_of_pop16 hpop, hiByte_assemble _ _, ?_, rfl⟩
    change unpackFlags (loByte (assemble s.a (packFlags s.flags))) = s.flags
    rw [loByte_assemble, StateLaws.unpackFlags_packFlags]
  · have hpop := pop16_after_push (f := .call addr) rfl rfl rfl h rfl rfl rfl
    exact ⟨_, exec_ret_of_pop16 hpop, rfl, rfl⟩
  · have hpop := pop16_after_push (formOf_instrOf _) rfl rfl h rfl rfl rfl
    exact ⟨_, exec_ret_of_pop16 hpop, rfl, rfl⟩
  · exact ⟨exec_jcc_notTaken h addr, exec_ccc_notTaken h addr, exec_rcc_notTaken h, exec_nopAliases (by simp) s⟩

end Sys2Proof.Proofs.StackLaws
end

section
/-! PROOF. EI, DI, IN and OUT (44_control_io.md R364 to R367): the ports for each kind of host. -/

namespace Sys2Proof.Proofs.ControlAndPorts

open Sys2Proof.Machine Sys2Proof.Proofs.Outcomes

/-- Settles O58: the effects of the two forms. -/
theorem eiAndDiWriteInte : Obligations.EiAndDiWriteInte :=
  fun _ => ⟨exec_of_noAccess rfl rfl rfl rfl, exec_of_noAccess rfl rfl rfl rfl⟩

section
variable {s : State} {port v : Byte} {host : PortHost}

theorem exec_inPort (hanswer : hostAnswer s.portHost s.portLog port = v)
    (hhost : hostAfterInput s.portHost port = host) :
    exec (.inPort port) s =
      .next { s with a := v, portHost := host, portLog := s.portLog ++ [.input port v], pc := s.pc + 2 } := by
  subst hanswer hhost
  exact exec_of_noAccess rfl rfl rfl rfl

theorem exec_outPort (hhost : hostAfterOutput s.portHost port s.a = host) :
    exec (.outPort port) s =
      .next { s with portHost := host, portLog := s.portLog ++ [.output port s.a], pc := s.pc + 2 } := by
  subst hhost
  exact exec_of_noAccess rfl rfl rfl rfl

end

/-- Settles O59, kind of host by kind of host: its answer, and the host after the access. -/
theorem inReadsAndOutWritesAPort : Obligations.InReadsAndOutWritesAPort := by
  intro s port
  refine ⟨fun bytes h => ⟨?_, ?_⟩, fun bytes h => ⟨?_, ?_⟩, fun n h => ⟨?_, ?_⟩, fun answers h => ⟨?_, ?_, ?_⟩⟩
  · exact exec_inPort (by rw [h]; rfl) (by rw [h]; rfl)
  · exact exec_outPort (by rw [h]; rfl)
  · exact exec_inPort (by rw [h]; rfl) (by rw [h]; rfl)
  · exact exec_outPort (by rw [h]; rfl)
  · exact exec_inPort (by rw [h]; rfl) (by rw [h]; rfl)
  · exact exec_outPort (by rw [h]; rfl)
  · intro hnone
    obtain ⟨hanswer, hhost⟩ := hostAnswer_scripted_none hnone s.portLog
    rw [← h] at hanswer hhost
    exact exec_inPort hanswer hhost
  · rintro earlier later v rfl hearlier
    obtain ⟨hanswer, hhost⟩ := hostAnswer_scripted_first hearlier s.portLog
    rw [← h] at hanswer hhost
    exact exec_inPort hanswer hhost
  · exact exec_outPort (by rw [h]; rfl)

end Sys2Proof.Proofs.ControlAndPorts
end

section
/-! PROOF. How a run ends (70_reset_and_hazards.md R457, R466): the bounded loop against the batch of as many steps, and
the fault and the OUT events a batch shows. Both by induction on the number of steps, with one case for each outcome of
the first step. -/

namespace Sys2Proof.Proofs.Runs

open Sys2Proof.Machine Sys2Proof.Claims Sys2Proof.Proofs.Steps Sys2Proof.Proofs.HaltAndNop
open Sys2Proof.Proofs.Frames Sys2Proof.Proofs.Independence

/-! ### The first step of a batch and of the loop -/

section
variable {s t : State} {f : Fault} (hrun : s.run = .running)
include hrun

theorem runBatch_of_next (h : step s = .next t) (n : Nat) : runBatch (n + 1) s = runBatch n t := by
  rw [runBatch_running hrun, h, RunEnd.ofStep_next, RunEnd.stopped_andThen]

theorem runBatch_of_fault (h : step s = .fault f) (n : Nat) : runBatch (n + 1) s = .faulted f (outEvents s) := by
  rw [runBatch_running hrun, h, RunEnd.ofStep_fault, RunEnd.faulted_andThen]

theorem runUntilHalt_zero : runUntilHalt 0 s = none := by
  simp [runUntilHalt, hrun]

theorem runUntilHalt_of_next (h : step s = .next t) (n : Nat) : runUntilHalt (n + 1) s = runUntilHalt n t := by
  simp [runUntilHalt, hrun, h]

theorem runUntilHalt_of_fault (h : step s = .fault f) (n : Nat) :
    runUntilHalt (n + 1) s = some (.faulted f (outEvents s)) := by
  simp [runUntilHalt, hrun, h]

end

theorem runUntilHalt_halted {s : State} (h : s.run = .halted) (n : Nat) : runUntilHalt n s = some (.stopped s) := by
  cases n <;> simp [runUntilHalt, h]

/-! ### run_until_halt() -/

/-- The ends at which `run_until_halt()` returns. -/
def Returns (x : RunEnd) : Prop := (∃ t, x = .stopped t ∧ t.run = .halted) ∨ ∃ f events, x = .faulted f events

theorem returns_halted {s : State} (h : s.run = .halted) : Returns (.stopped s) := .inl ⟨s, rfl, h⟩

theorem returns_faulted (f : Fault) (events : List (Byte × Byte)) : Returns (.faulted f events) :=
  .inr ⟨f, events, rfl⟩

theorem not_returns_running {s : State} (h : s.run = .running) : ¬ Returns (.stopped s) := by
  rintro (⟨t, ht, hhalted⟩ | ⟨f, events, hf⟩)
  · rw [RunEnd.stopped.injEq] at ht
    rw [ht, hhalted] at h
    exact RunState.noConfusion h
  · exact RunEnd.noConfusion hf

theorem runUntilHalt_iff (fuel : Nat) (s : State) (x : RunEnd) :
    runUntilHalt fuel s = some x ↔ runBatch fuel s = x ∧ Returns x := by
  induction fuel generalizing s with
  | zero =>
    cases hrun : s.run with
    | halted =>
      rw [runUntilHalt_halted hrun, runBatch_zero, Option.some_inj]
      exact ⟨fun h => ⟨h, h ▸ returns_halted hrun⟩, And.left⟩
    | running =>
      rw [runUntilHalt_zero hrun, runBatch_zero]
      exact ⟨nofun, fun ⟨h, hx⟩ => absurd (h ▸ hx) (not_returns_running hrun)⟩
  | succ n ih =>
    cases hrun : s.run with
    | halted =>
      rw [runUntilHalt_halted hrun, runBatch_halted hrun, Option.some_inj]
      exact ⟨fun h => ⟨h, h ▸ returns_halted hrun⟩, And.left⟩
    | running =>
      cases hstep : step s with
      | next t => rw [runUntilHalt_of_next hrun hstep, runBatch_of_next hrun hstep, ih]
      | fault f =>
        rw [runUntilHalt_of_fault hrun hstep, runBatch_of_fault hrun hstep, Option.some_inj]
        exact ⟨fun h => ⟨h, h ▸ returns_faulted _ _⟩, And.left⟩
      | refused r => exact absurd hstep (step_ne_refused s r)

/-- Settles O30: the loop and the batch make the same steps. -/
theorem runUntilHaltEndsInHaltedOrFault : Obligations.RunUntilHaltEndsInHaltedOrFault :=
  ⟨runUntilHalt_iff, fun n _ h => runUntilHalt_halted h n⟩

/-! ### The OUT events of a run -/

/-- A step takes no OUT event back. -/
theorem outEvents_step {s t : State} (h : step s = .next t) : ∃ more, outEvents t = outEvents s ++ more := by
  obtain hs | ⟨f, hs⟩ | ⟨i, hs⟩ := step_cases s
  · rw [hs, Host.Outcome.next.injEq] at h
    exact ⟨[], by rw [h, List.append_nil]⟩
  · exact absurd (hs.symm.trans h) nofun
  · obtain ⟨-, -, -, hevents⟩ := parametersAndPortsChangeOnlyAsStated i s t (hs.symm.trans h)
    rw [hevents]
    split
    · exact ⟨_, rfl⟩
    · exact ⟨[], (List.append_nil _).symm⟩

theorem outEvents_runBatch {n : Nat} {s t : State} (h : runBatch n s = .stopped t) :
    ∃ more, outEvents t = outEvents s ++ more := by
  induction n generalizing s with
  | zero =>
    rw [runBatch_zero, RunEnd.stopped.injEq] at h
    exact ⟨[], by rw [h, List.append_nil]⟩
  | succ n ih =>
    cases hrun : s.run with
    | halted =>
      rw [runBatch_halted hrun, RunEnd.stopped.injEq] at h
      exact ⟨[], by rw [h, List.append_nil]⟩
    | running =>
      cases hstep : step s with
      | next u =>
        rw [runBatch_of_next hrun hstep] at h
        obtain ⟨first, hfirst⟩ := outEvents_step hstep
        obtain ⟨rest, hrest⟩ := ih h
        exact ⟨first ++ rest, by rw [hrest, hfirst, List.append_assoc]⟩
      | fault f =>
        rw [runBatch_of_fault hrun hstep] at h
        exact RunEnd.noConfusion h
      | refused r => exact absurd hstep (step_ne_refused s r)

/-! ### The fault of a run -/

theorem observe_eq_faulted_iff (r : RunEnd) (f : Fault) (events : List (Byte × Byte)) :
    observe r = .faulted f events ↔ r = .faulted f events := by
  cases r <;> simp [observe]

/-- The step that raised the fault of a batch, and the state it was made in. -/
theorem runBatch_eq_faulted_iff (n : Nat) (s : State) (f : Fault) (events : List (Byte × Byte)) :
    runBatch n s = .faulted f events ↔
      ∃ m t, m < n ∧ runBatch m s = .stopped t ∧ step t = .fault f ∧ events = outEvents t := by
  constructor
  · intro h
    induction n generalizing s with
    | zero =>
      rw [runBatch_zero] at h
      exact RunEnd.noConfusion h
    | succ n ih =>
      cases hrun : s.run with
      | halted =>
        rw [runBatch_halted hrun] at h
        exact RunEnd.noConfusion h
      | running =>
        cases hstep : step s with
        | next u =>
          rw [runBatch_of_next hrun hstep] at h
          obtain ⟨m, t, hm, hbatch, hfault, hevents⟩ := ih u h
          exact ⟨m + 1, t, Nat.succ_lt_succ hm, (runBatch_of_next hrun hstep m).trans hbatch, hfault, hevents⟩
        | fault g =>
          rw [runBatch_of_fault hrun hstep, RunEnd.faulted.injEq] at h
          obtain ⟨rfl, rfl⟩ := h
          exact ⟨0, s, Nat.succ_pos n, runBatch_zero s, hstep, rfl⟩
        | refused r => exact absurd hstep (step_ne_refused s r)
  · rintro ⟨m, t, hm, hbatch, hfault, rfl⟩
    have hrun : t.run = .running := by
      cases hrun : t.run with
      | halted => exact absurd ((step_of_halted hrun).symm.trans hfault) nofun
      | running => rfl
    obtain ⟨k, rfl⟩ := Nat.exists_eq_add_of_lt hm
    rw [Nat.add_assoc, Batches.runBatch_add, hbatch, RunEnd.stopped_andThen, runBatch_of_fault hrun hfault]

/-- Settles O60: the events along a batch, the fault of a batch, and the step with another host. -/
theorem runsShowTheirOutEventsAndTheHostMattersByItsAnswers :
    Obligations.RunsShowTheirOutEventsAndTheHostMattersByItsAnswers := by
  refine ⟨fun n s t h => ⟨?_, outEvents_runBatch h⟩, fun n s f events => ?_, agreeUpTo_dropHost_step⟩
  · rw [h, observe_stopped]
  · rw [observe_eq_faulted_iff, runBatch_eq_faulted_iff]

end Sys2Proof.Proofs.Runs
end
